-- ==== Sys2Proof/Word.lean ====
section
/-!
DEFINITION. The widths of the block's quantities (00_scope.md section 5, 10_state.md R10): every value is unsigned.
-/

namespace Sys2Proof

/-- A byte: 8 bits, unsigned (00_scope.md section 5). -/
abbrev Byte := BitVec 8

/-- A 16-bit value: a CRC running value (R11), a checksum, a password (R81). -/
abbrev Half := BitVec 16

/-- A 32-bit value: a device address (R41) or a length (R76). -/
abbrev Word32 := BitVec 32

/-- A CAN identifier, 29 bits (R60). -/
abbrev CanId := BitVec 29

end Sys2Proof
end

