-- ==== Sys2Proof/Syntax.lean ====
section
/-!
DEFINITION. The syntax of the block: its enumerations, frames, controller operations, the instructions (one
constructor per row of spec/opcode_table.json) and the input events that carry them.

An instruction is what the environment presents to the block (92_eei_decisions.md D1): an operation at the operation
port (the 18 `OP` rows), or a frame at the RX port (the ten `HC` rows and the `BR` row).
-/

namespace Sys2Proof

/-- The ten members of CommandCode (30_encoding.md R67). -/
inductive CommandCode where
  | connect
  | setMta
  | download
  | upload
  | disconnect
  | buildChecksum
  | clearMemory
  | unlock
  | actionService
  | download6
deriving DecidableEq, Repr, Inhabited

/-- The nine members of CommandStatus (30_encoding.md R79). -/
inductive CommandStatus where
  | acknowledge
  | processorBusy
  | unknownCommand
  | commandSyntax
  | parametersOutOfRange
  | accessDenied
  | accessLocked
  | resourceFunctionUnavailable
  | operationalFailure
deriving DecidableEq, Repr

/-- The four device memory regions that an address extension can select (R41, R80). -/
inductive Region where
  | flashMemory
  | configurationRegisters
  | eepromMemoryBootloader
  | eepromMemoryData
deriving DecidableEq, Repr

/-- AddressExtension: four members and two further names for a member (R41, R80).
Which member `raw` and `dataLogger` stand for is configuration. -/
inductive AddressExtension where
  | flashMemory
  | configurationRegisters
  | eepromMemoryBootloader
  | eepromMemoryData
  | raw
  | dataLogger
deriving DecidableEq, Repr, Inhabited

/-- Password: `dsp_flash` is the one member the source names; the configuration lists the others, `other k` being the
`k`-th of them (R81, 92_eei_decisions.md D15). -/
inductive Password where
  | dspFlash
  | other (k : Nat)
deriving DecidableEq, Repr, Inhabited

/-- The eight error kinds (44_retry.md R190, 60_exceptions.md R220). -/
inductive ErrorKind where
  | messageLength
  | identifierType
  | payloadLength
  | handlerBusy
  | stateViolation
  | unexpectedMessage
  | requestTimeout
  | cancelled
deriving DecidableEq, Repr

/-- A set of error kinds (R190), one membership bit for each kind, so that equal sets are equal data. -/
structure KindSet where
  messageLength : Bool := false
  identifierType : Bool := false
  payloadLength : Bool := false
  handlerBusy : Bool := false
  stateViolation : Bool := false
  unexpectedMessage : Bool := false
  requestTimeout : Bool := false
  cancelled : Bool := false
deriving DecidableEq, Repr, Inhabited

/-- A frame (R60). Its `len` is the number of its data bytes, `Frame.len`. -/
structure Frame where
  id : CanId
  ext : Bool
  data : List Byte
deriving DecidableEq, Repr

/-- The `len` field of a frame: "the number of data bytes" (R60; notes/assumptions/12.md). -/
abbrev Frame.len (f : Frame) : Nat := f.data.length

/-- A CRC accumulator's number: 0 or 1 (R11, R110). -/
inductive Lane where
  | zero
  | one
deriving DecidableEq, Repr

/-- The nine controller operations with their operands (42_controller_ops.md R142 to R150): what `RETRY` wraps and
what the register `r_op` holds (R190). -/
inductive CtrlOp where
  | connect (station : Byte)
  | disconnect
  | setMta (e : AddressExtension) (a : Word32)
  | unlock (p : Password)
  | download (d : List Byte)
  | download6 (d : List Byte)
  | upload (n : Byte) (block : Bool)
  | buildChecksum (k : Half) (len : Word32)
  | clearMemory
deriving DecidableEq, Repr, Inhabited

/-- The instructions: one constructor per row of spec/opcode_table.json.

A `wire…` constructor is a frame presented at the RX port whose first data byte is that row's; it carries the
identifier and the identifier type, which the row's 64 bits leave out, and every other bit of the 8 data bytes, constant
fields and padding included, because the block's decoder tests `d[0]` alone (R84). -/
inductive Instr where
  /-- `connect` (R69). -/
  | wireConnect (id : CanId) (ext : Bool) (ctr station : Byte) (pad : BitVec 40)
  /-- `set_mta` (R71). -/
  | wireSetMta (id : CanId) (ext : Bool) (ctr reserved extension : Byte) (address : Word32)
  /-- `download` (R73). -/
  | wireDownload (id : CanId) (ext : Bool) (ctr length : Byte) (data : BitVec 40)
  /-- `upload` (R75). -/
  | wireUpload (id : CanId) (ext : Bool) (ctr count : Byte) (pad : BitVec 40)
  /-- `disconnect` (R70). -/
  | wireDisconnect (id : CanId) (ext : Bool) (ctr : Byte) (pad : BitVec 48)
  /-- `build_checksum` (R76). -/
  | wireBuildChecksum (id : CanId) (ext : Bool) (ctr : Byte) (length : Word32) (checksum : Half)
  /-- `clear_memory` (R77). -/
  | wireClearMemory (id : CanId) (ext : Bool) (ctr : Byte) (length : Word32) (pad : Half)
  /-- `unlock` (R72). -/
  | wireUnlock (id : CanId) (ext : Bool) (ctr lead : Byte) (password : Half) (pad : BitVec 24)
  /-- `action_service` (R78). -/
  | wireActionService (id : CanId) (ext : Bool) (ctr : Byte) (payload : BitVec 48)
  /-- `download_6` (R74). -/
  | wireDownload6 (id : CanId) (ext : Bool) (ctr : Byte) (data : BitVec 48)
  /-- `reply` (R63). -/
  | wireReply (id : CanId) (ext : Bool) (status ctr : Byte) (payload : BitVec 40)
  /-- `CRC_SEED(mask)` (R104). -/
  | crcSeed (mask : BitVec 2)
  /-- `CRC_LOAD(lane, v)` (R105). -/
  | crcLoad (lane : Lane) (v : Half)
  /-- `CRC_UPDATE(mask, b)` (R106). -/
  | crcUpdate (mask : BitVec 2) (b : Byte)
  /-- `CRC_READ(lane)` (R107). -/
  | crcRead (lane : Lane)
  /-- `ENCODE_COMMAND(code, ctr, p)` (R121). -/
  | encodeCommand (code : CommandCode) (ctr : Byte) (p : List Byte)
  /-- `ENCODE_REPLY(status, ctr, p)` (R125). -/
  | encodeReply (status ctr : Byte) (p : List Byte)
  /-- `DECODE(frame)` (R124). -/
  | decodeFrame (f : Frame)
  /-- `CONNECT(station)` (R142). -/
  | connect (station : Byte)
  /-- `DISCONNECT()` (R143). -/
  | disconnect
  /-- `SET_MTA(e, a)` (R144). -/
  | setMta (e : AddressExtension) (a : Word32)
  /-- `UNLOCK(p)` (R145). -/
  | unlock (p : Password)
  /-- `DOWNLOAD(s)` (R146). -/
  | download (d : List Byte)
  /-- `DOWNLOAD_6(s)` (R147). -/
  | download6 (d : List Byte)
  /-- `UPLOAD(n, block)` (R148). -/
  | upload (n : Byte) (block : Bool)
  /-- `BUILD_CHECKSUM(k, L)` (R149). -/
  | buildChecksum (k : Half) (len : Word32)
  /-- `CLEAR_MEMORY()` (R150). -/
  | clearMemory
  /-- `CANCEL()` (R180). -/
  | cancel
  /-- `RETRY(op, times, accept)` (R191). -/
  | retry (op : CtrlOp) (times : Byte) (accept : KindSet)
deriving DecidableEq, Repr

/-- A controller operation as the instruction that presents it directly. -/
def CtrlOp.toInstr : CtrlOp → Instr
  | .connect station => .connect station
  | .disconnect => .disconnect
  | .setMta e a => .setMta e a
  | .unlock p => .unlock p
  | .download d => .download d
  | .download6 d => .download6 d
  | .upload n block => .upload n block
  | .buildChecksum k len => .buildChecksum k len
  | .clearMemory => .clearMemory

/-- One operand as the operation port carries it: a value of one of the types of R90's operand column.
The spec gives operands types and no bit layout (R12, R90, opcode_table.json). A lane arrives as a number, so that a
lane that does not exist (R110) can be presented. -/
inductive Operand where
  | mask (m : BitVec 2)
  | lane (n : Nat)
  | byte (b : Byte)
  | half (v : Half)
  | word (v : Word32)
  | flag (b : Bool)
  | bytes (d : List Byte)
  | frame (f : Frame)
  | code (c : CommandCode)
  | extension (e : AddressExtension)
  | password (p : Password)
  | operation (op : CtrlOp)
  | kinds (k : KindSet)
deriving DecidableEq, Repr

/-- The input events (00_scope.md section 6, 60_exceptions.md R230): one operation at the operation port (a selector
byte and its operands, R90), one inbound frame, one timer tick, or a reset. -/
inductive Event where
  | op (sel : Byte) (args : List Operand)
  | rx (f : Frame)
  | tick
  | reset
deriving DecidableEq, Repr

end Sys2Proof
end

