-- ==== Sys2Proof/Config.lean ====
section
/-!
DEFINITION. The configuration (00_scope.md section 4): the parameters an implementation fixes, their constraints (R2 to
R5), the test configuration TESTCFG, and the free values the spec leaves open.

The configuration is a field of State, so that every statement made for all states is made for every configuration
(R67: "A model must take `CODE` as configuration and must not build the default values into its semantics"); no step
changes it (R10).
-/

namespace Sys2Proof

/-- One value for each command code. -/
structure PerCode (α : Type) where
  connect : α
  setMta : α
  download : α
  upload : α
  disconnect : α
  buildChecksum : α
  clearMemory : α
  unlock : α
  actionService : α
  download6 : α
deriving DecidableEq, Repr

def PerCode.get {α : Type} (t : PerCode α) : CommandCode → α
  | .connect => t.connect
  | .setMta => t.setMta
  | .download => t.download
  | .upload => t.upload
  | .disconnect => t.disconnect
  | .buildChecksum => t.buildChecksum
  | .clearMemory => t.clearMemory
  | .unlock => t.unlock
  | .actionService => t.actionService
  | .download6 => t.download6

/-- The members of CommandCode in the order R67 lists them. -/
def CommandCode.all : List CommandCode :=
  [.connect, .setMta, .download, .upload, .disconnect, .buildChecksum, .clearMemory, .unlock, .actionService,
    .download6]

/-- One value for each command status. -/
structure PerStatus (α : Type) where
  acknowledge : α
  processorBusy : α
  unknownCommand : α
  commandSyntax : α
  parametersOutOfRange : α
  accessDenied : α
  accessLocked : α
  resourceFunctionUnavailable : α
  operationalFailure : α
deriving DecidableEq, Repr

def PerStatus.get {α : Type} (t : PerStatus α) : CommandStatus → α
  | .acknowledge => t.acknowledge
  | .processorBusy => t.processorBusy
  | .unknownCommand => t.unknownCommand
  | .commandSyntax => t.commandSyntax
  | .parametersOutOfRange => t.parametersOutOfRange
  | .accessDenied => t.accessDenied
  | .accessLocked => t.accessLocked
  | .resourceFunctionUnavailable => t.resourceFunctionUnavailable
  | .operationalFailure => t.operationalFailure

/-- The members of CommandStatus in the order R79 lists them. -/
def CommandStatus.all : List CommandStatus :=
  [.acknowledge, .processorBusy, .unknownCommand, .commandSyntax, .parametersOutOfRange, .accessDenied,
    .accessLocked, .resourceFunctionUnavailable, .operationalFailure]

/-- One value for each memory region. -/
structure PerRegion (α : Type) where
  flashMemory : α
  configurationRegisters : α
  eepromMemoryBootloader : α
  eepromMemoryData : α
deriving DecidableEq, Repr

def PerRegion.get {α : Type} (t : PerRegion α) : Region → α
  | .flashMemory => t.flashMemory
  | .configurationRegisters => t.configurationRegisters
  | .eepromMemoryBootloader => t.eepromMemoryBootloader
  | .eepromMemoryData => t.eepromMemoryData

/-- The value of `CATEGORY[s]`: none, c0, c1, c2 or c3 (00_scope.md section 4, R79). -/
inductive StatusClass where
  | none
  | c0
  | c1
  | c2
  | c3
deriving DecidableEq, Repr

/-- The open parameters of 00_scope.md section 4, one field each. -/
structure Config where
  /-- `CODE[c]` (R67, D9). -/
  code : PerCode Byte
  /-- `STATUS[s]` (R79, D10). -/
  status : PerStatus Byte
  /-- `CATEGORY[s]` (R79, D11). -/
  category : PerStatus StatusClass
  /-- `ID_HOST` (R4, D12). -/
  idHost : CanId
  /-- `ID_REPLY` (R4, D12). -/
  idReply : CanId
  /-- `TIMEOUT[c]`, in ticks (R5, D13). -/
  timeout : PerCode Nat
  /-- `EXT[e]` (R80, D14). -/
  ext : PerRegion Byte
  /-- The member the name `raw` stands for (R80, D14). -/
  rawStandsFor : Region
  /-- The member the name `data_logger` stands for (R80, D14). -/
  dataLoggerStandsFor : Region
  /-- `PASSWORD[dsp_flash]` (R81, D15). -/
  passwordDspFlash : Half
  /-- `PASSWORD[p]` of the members the source does not name, in order (R81, D15). -/
  passwordOthers : List Half
  /-- `HAS_CONTROLLER` (R1, D3). -/
  hasController : Bool
  /-- `HAS_RETRY` (R1, D3). -/
  hasRetry : Bool
deriving DecidableEq, Repr

/-- The ten command code bytes, in R67's order. -/
def Config.codes (c : Config) : List Byte := CommandCode.all.map c.code.get

/-- The nine status bytes, in R79's order. -/
def Config.statuses (c : Config) : List Byte := CommandStatus.all.map c.status.get

/-- The constraints R2 to R5, and `HAS_RETRY` needs `HAS_CONTROLLER` (00_scope.md section 1). -/
abbrev Config.Valid (c : Config) : Prop :=
  c.codes.Nodup ∧ 0xFF#8 ∉ c.codes ∧ c.statuses.Nodup ∧ c.idHost ≠ c.idReply ∧
    (∀ m ∈ CommandCode.all, 1 ≤ c.timeout.get m) ∧ (c.hasRetry = true → c.hasController = true)

/-- The largest `TIMEOUT[c]`, which bounds the timer (R10, R20). -/
def Config.maxTimeout (c : Config) : Nat := (CommandCode.all.map c.timeout.get).foldr max 0

/-- Whether a Password member exists in this configuration (R81, D15). -/
def Config.hasPassword (c : Config) : Password → Bool
  | .dspFlash => true
  | .other k => decide (k < c.passwordOthers.length)

/-- TESTCFG (00_scope.md section 4). Its command and status codes are the spec's defaults, which opcode_table.json uses;
the rest are the spec's values for testing. The presence of both options, the targets of the two further extension
names and the empty list of further passwords are the model's (notes/assumptions/2.md). -/
def Config.test : Config where
  code :=
    { connect := 0x01, setMta := 0x02, download := 0x03, upload := 0x04, disconnect := 0x07, buildChecksum := 0x0E,
      clearMemory := 0x10, unlock := 0x13, actionService := 0x21, download6 := 0x23 }
  status :=
    { acknowledge := 0x00, processorBusy := 0x10, unknownCommand := 0x30, commandSyntax := 0x31,
      parametersOutOfRange := 0x32, accessDenied := 0x33, accessLocked := 0x35,
      resourceFunctionUnavailable := 0x36, operationalFailure := 0x37 }
  category :=
    { acknowledge := .none, processorBusy := .c1, unknownCommand := .c3, commandSyntax := .c3,
      parametersOutOfRange := .c3, accessDenied := .c3, accessLocked := .c3, resourceFunctionUnavailable := .c3,
      operationalFailure := .c3 }
  idHost := 0x18FF0001
  idReply := 0x18FF0002
  timeout :=
    { connect := 4, setMta := 4, download := 4, upload := 4, disconnect := 4, buildChecksum := 4, clearMemory := 4,
      unlock := 4, actionService := 4, download6 := 4 }
  ext :=
    { flashMemory := 0, configurationRegisters := 1, eepromMemoryBootloader := 2, eepromMemoryData := 3 }
  rawStandsFor := .flashMemory
  dataLoggerStandsFor := .flashMemory
  passwordDspFlash := 0x1234
  passwordOthers := []
  hasController := true
  hasRetry := true

/-! ### Free values: nothing constrains them -/

/-- `r_op` after a RESET event: "unspecified" (R26; 93_implementation_defined.md U9, "any value"). -/
opaque Config.freeRetryOp : Nat → CtrlOp

/-- `r_left` after a RESET event: "unspecified" (R26, U9). -/
opaque Config.freeRetryLeft : Nat → Byte

/-- `r_accept` after a RESET event: "unspecified" (R26, U9). -/
opaque Config.freeRetryAccept : Nat → KindSet

/-- The 16-bit value of a Password name that is no member of the configuration. Such an operand is never transmitted
from a state a run reaches: an operation that carries it is refused (notes/assumptions/6.md). -/
opaque Config.absentPassword : Nat → Half

end Sys2Proof
end

