-- ==== Sys2Proof/WellFormed.lean ====
section
/-!
DEFINITION. When an instruction is one that the block of a given configuration has (30_encoding.md R90): its unit is
present and its operands lie in their types. An ill-formed instruction "selects no operation" and changes nothing.
-/

namespace Sys2Proof

/-- The operands of a controller operation lie in their types: the one open enumeration is Password (R81). -/
def CtrlOp.wellFormed (c : Config) : CtrlOp → Bool
  | .connect _ => true
  | .disconnect => true
  | .setMta _ _ => true
  | .unlock p => c.hasPassword p
  | .download _ => true
  | .download6 _ => true
  | .upload _ _ => true
  | .buildChecksum _ _ => true
  | .clearMemory => true

/-- An instruction of the block: CRC unit and codec are always present; the RX port, the controller operations and
`CANCEL` need `HAS_CONTROLLER`; `RETRY` needs `HAS_RETRY` and so `HAS_CONTROLLER` (R1, 43_controller_events.md and
44_retry.md opening lines). -/
def Instr.wellFormed (c : Config) : Instr → Bool
  | .wireConnect _ _ _ _ _ => c.hasController
  | .wireSetMta _ _ _ _ _ _ => c.hasController
  | .wireDownload _ _ _ _ _ => c.hasController
  | .wireUpload _ _ _ _ _ => c.hasController
  | .wireDisconnect _ _ _ _ => c.hasController
  | .wireBuildChecksum _ _ _ _ _ => c.hasController
  | .wireClearMemory _ _ _ _ _ => c.hasController
  | .wireUnlock _ _ _ _ _ _ => c.hasController
  | .wireActionService _ _ _ _ => c.hasController
  | .wireDownload6 _ _ _ _ => c.hasController
  | .wireReply _ _ _ _ _ => c.hasController
  | .crcSeed _ => true
  | .crcLoad _ _ => true
  | .crcUpdate _ _ => true
  | .crcRead _ => true
  | .encodeCommand _ _ _ => true
  | .encodeReply _ _ _ => true
  | .decodeFrame _ => true
  | .connect station => c.hasController && (CtrlOp.connect station).wellFormed c
  | .disconnect => c.hasController && CtrlOp.disconnect.wellFormed c
  | .setMta e a => c.hasController && (CtrlOp.setMta e a).wellFormed c
  | .unlock p => c.hasController && (CtrlOp.unlock p).wellFormed c
  | .download d => c.hasController && (CtrlOp.download d).wellFormed c
  | .download6 d => c.hasController && (CtrlOp.download6 d).wellFormed c
  | .upload n block => c.hasController && (CtrlOp.upload n block).wellFormed c
  | .buildChecksum k len => c.hasController && (CtrlOp.buildChecksum k len).wellFormed c
  | .clearMemory => c.hasController && CtrlOp.clearMemory.wellFormed c
  | .cancel => c.hasController
  | .retry op _ _ => c.hasController && c.hasRetry && op.wellFormed c

end Sys2Proof
end

