-- ==== Sys2Proof/Decode.lean ====
section
/-!
DEFINITION. The encodings (30_encoding.md): byte order, the layout of each frame, decoding an input event into an
instruction (total, rejecting by name), and the encoder.

Two kinds of event carry an instruction: a frame at the RX port, whose 8 data bytes are a row of the table (R61 to R63,
R69 to R78), and a selector with operands at the operation port (R90).
-/

namespace Sys2Proof

/-! ### Bytes and byte order -/

/-- The `k`-th byte of `v`, counted from the least significant. -/
def byteAt {w : Nat} (k : Nat) (v : BitVec w) : Byte := BitVec.ofNat 8 (v.toNat / 256 ^ k)

/-- `be16(v)` (00_scope.md section 5, R43): most significant byte first. -/
def be16 (v : Half) : List Byte := [byteAt 1 v, byteAt 0 v]

/-- Three bytes, most significant first. -/
def be24 (v : BitVec 24) : List Byte := [byteAt 2 v, byteAt 1 v, byteAt 0 v]

/-- `be32(v)` (00_scope.md section 5, R43): most significant byte first. -/
def be32 (v : Word32) : List Byte := [byteAt 3 v, byteAt 2 v, byteAt 1 v, byteAt 0 v]

/-- Five bytes, most significant first. -/
def be40 (v : BitVec 40) : List Byte := [byteAt 4 v, byteAt 3 v, byteAt 2 v, byteAt 1 v, byteAt 0 v]

/-- Six bytes, most significant first. -/
def be48 (v : BitVec 48) : List Byte :=
  [byteAt 5 v, byteAt 4 v, byteAt 3 v, byteAt 2 v, byteAt 1 v, byteAt 0 v]

/-- The unsigned number that a byte string, most significant byte first, stands for. -/
def natOfBytes (bs : List Byte) : Nat := bs.foldl (fun acc b => acc * 256 + b.toNat) 0

/-- The `w`-bit value of a byte string, most significant byte first (R43, R82). -/
def ofBytes (w : Nat) (bs : List Byte) : BitVec w := BitVec.ofNat w (natOfBytes bs)

/-! ### Constants of the frame -/

/-- `REPLY_MARKER` (R63). -/
def replyMarker : Byte := 0xFF

/-- `FRAME_LEN` (R60). -/
def frameLen : Nat := 8

/-! ### Members of the enumerations from their bytes (R124) -/

/-- `lookup_code(x)`: the member whose `CODE` is `x`, or none (R124; notes/assumptions/13.md). -/
def lookupCode (c : Config) (x : Byte) : Option CommandCode :=
  CommandCode.all.find? fun m => c.code.get m == x

/-- `lookup_status(x)`: the member whose `STATUS` is `x`, or none (R124). -/
def lookupStatus (c : Config) (x : Byte) : Option CommandStatus :=
  CommandStatus.all.find? fun m => c.status.get m == x

/-! ### The frame of each wire row -/

/-- A frame of format HC (R62): code, counter, and the 6 bytes of the window. -/
def hcFrame (id : CanId) (ext : Bool) (code ctr : Byte) (window : List Byte) : Frame :=
  { id := id, ext := ext, data := code :: ctr :: window }

/-- `[CODE[connect], ctr, station, pad]` (R69). -/
def wireConnectFrame (c : Config) (id : CanId) (ext : Bool) (ctr station : Byte) (pad : BitVec 40) : Frame :=
  hcFrame id ext (c.code.get .connect) ctr (station :: be40 pad)

/-- `[CODE[set_mta], ctr, reserved, extension, address]` (R71). -/
def wireSetMtaFrame (c : Config) (id : CanId) (ext : Bool) (ctr reserved extension : Byte) (address : Word32) :
    Frame :=
  hcFrame id ext (c.code.get .setMta) ctr (reserved :: extension :: be32 address)

/-- `[CODE[download], ctr, length, data]` (R73). -/
def wireDownloadFrame (c : Config) (id : CanId) (ext : Bool) (ctr length : Byte) (data : BitVec 40) : Frame :=
  hcFrame id ext (c.code.get .download) ctr (length :: be40 data)

/-- `[CODE[upload], ctr, count, pad]` (R75). -/
def wireUploadFrame (c : Config) (id : CanId) (ext : Bool) (ctr count : Byte) (pad : BitVec 40) : Frame :=
  hcFrame id ext (c.code.get .upload) ctr (count :: be40 pad)

/-- `[CODE[disconnect], ctr, pad]` (R70). -/
def wireDisconnectFrame (c : Config) (id : CanId) (ext : Bool) (ctr : Byte) (pad : BitVec 48) : Frame :=
  hcFrame id ext (c.code.get .disconnect) ctr (be48 pad)

/-- `[CODE[build_checksum], ctr, length, checksum]` (R76). -/
def wireBuildChecksumFrame (c : Config) (id : CanId) (ext : Bool) (ctr : Byte) (length : Word32) (checksum : Half) :
    Frame :=
  hcFrame id ext (c.code.get .buildChecksum) ctr (be32 length ++ be16 checksum)

/-- `[CODE[clear_memory], ctr, length, pad]` (R77). -/
def wireClearMemoryFrame (c : Config) (id : CanId) (ext : Bool) (ctr : Byte) (length : Word32) (pad : Half) :
    Frame :=
  hcFrame id ext (c.code.get .clearMemory) ctr (be32 length ++ be16 pad)

/-- `[CODE[unlock], ctr, lead, password, pad]` (R72). -/
def wireUnlockFrame (c : Config) (id : CanId) (ext : Bool) (ctr lead : Byte) (password : Half) (pad : BitVec 24) :
    Frame :=
  hcFrame id ext (c.code.get .unlock) ctr (lead :: (be16 password ++ be24 pad))

/-- `[CODE[action_service], ctr, payload]` (R78). -/
def wireActionServiceFrame (c : Config) (id : CanId) (ext : Bool) (ctr : Byte) (payload : BitVec 48) : Frame :=
  hcFrame id ext (c.code.get .actionService) ctr (be48 payload)

/-- `[CODE[download_6], ctr, data]` (R74). -/
def wireDownload6Frame (c : Config) (id : CanId) (ext : Bool) (ctr : Byte) (data : BitVec 48) : Frame :=
  hcFrame id ext (c.code.get .download6) ctr (be48 data)

/-- `[0xFF, status, ctr, payload]` (R63). -/
def wireReplyFrame (id : CanId) (ext : Bool) (status ctr : Byte) (payload : BitVec 40) : Frame :=
  { id := id, ext := ext, data := replyMarker :: status :: ctr :: be40 payload }

/-! ### Decoding -/

/-- Why an event carries no instruction. -/
inductive DecodeError where
  /-- The selector is not in R90's table. -/
  | noSuchSelector (sel : Byte)
  /-- A lane other than 0 or 1 (R110). -/
  | noSuchLane (n : Nat)
  /-- The operands are not those R90 gives the operation. -/
  | badOperands (sel : Byte)
  /-- The frame has not exactly 8 data bytes (R60). -/
  | frameLength (n : Nat)
  /-- The first data byte is neither 0xFF nor a command code (R83). -/
  | unknownCode (b : Byte)
  /-- A tick or a reset: an input event that is no instruction (R230). -/
  | notAnInstruction
deriving DecidableEq, Repr

/-- A lane from its number (R110). -/
def laneOf : Nat → Option Lane
  | 0 => some .zero
  | 1 => some .one
  | _ => none

/-- The number of a lane. -/
def laneNumber : Lane → Nat
  | .zero => 0
  | .one => 1

/-- The instruction in a selector and its operands (R90's table). -/
def decodeOp (sel : Byte) (args : List Operand) : Except DecodeError Instr :=
  match sel.toNat with
  | 0x00 =>
    match args with
    | [.mask m] => .ok (.crcSeed m)
    | _ => .error (.badOperands sel)
  | 0x01 =>
    match args with
    | [.lane n, .half v] =>
      match laneOf n with
      | some lane => .ok (.crcLoad lane v)
      | none => .error (.noSuchLane n)
    | _ => .error (.badOperands sel)
  | 0x02 =>
    match args with
    | [.mask m, .byte b] => .ok (.crcUpdate m b)
    | _ => .error (.badOperands sel)
  | 0x03 =>
    match args with
    | [.lane n] =>
      match laneOf n with
      | some lane => .ok (.crcRead lane)
      | none => .error (.noSuchLane n)
    | _ => .error (.badOperands sel)
  | 0x10 =>
    match args with
    | [.code code, .byte ctr, .bytes p] => .ok (.encodeCommand code ctr p)
    | _ => .error (.badOperands sel)
  | 0x11 =>
    match args with
    | [.byte status, .byte ctr, .bytes p] => .ok (.encodeReply status ctr p)
    | _ => .error (.badOperands sel)
  | 0x12 =>
    match args with
    | [.frame f] => .ok (.decodeFrame f)
    | _ => .error (.badOperands sel)
  | 0x20 =>
    match args with
    | [.byte station] => .ok (.connect station)
    | _ => .error (.badOperands sel)
  | 0x21 =>
    match args with
    | [] => .ok .disconnect
    | _ => .error (.badOperands sel)
  | 0x22 =>
    match args with
    | [.extension e, .word a] => .ok (.setMta e a)
    | _ => .error (.badOperands sel)
  | 0x23 =>
    match args with
    | [.password p] => .ok (.unlock p)
    | _ => .error (.badOperands sel)
  | 0x24 =>
    match args with
    | [.bytes d] => .ok (.download d)
    | _ => .error (.badOperands sel)
  | 0x25 =>
    match args with
    | [.bytes d] => .ok (.download6 d)
    | _ => .error (.badOperands sel)
  | 0x26 =>
    match args with
    | [.byte n, .flag block] => .ok (.upload n block)
    | _ => .error (.badOperands sel)
  | 0x27 =>
    match args with
    | [.half k, .word len] => .ok (.buildChecksum k len)
    | _ => .error (.badOperands sel)
  | 0x28 =>
    match args with
    | [] => .ok .clearMemory
    | _ => .error (.badOperands sel)
  | 0x2F =>
    match args with
    | [] => .ok .cancel
    | _ => .error (.badOperands sel)
  | 0x30 =>
    match args with
    | [.operation op, .byte times, .kinds accept] => .ok (.retry op times accept)
    | _ => .error (.badOperands sel)
  | _ => .error (.noSuchSelector sel)

/-- The wire row of a frame: "tests only the mask/match pair of each row, which covers `d[0]` alone" (R84). -/
def decodeWire (c : Config) (f : Frame) : Except DecodeError Instr :=
  match f.data with
  | [d0, d1, d2, d3, d4, d5, d6, d7] =>
    if d0 = replyMarker then .ok (.wireReply f.id f.ext d1 d2 (ofBytes 40 [d3, d4, d5, d6, d7]))
    else
      match lookupCode c d0 with
      | some .connect => .ok (.wireConnect f.id f.ext d1 d2 (ofBytes 40 [d3, d4, d5, d6, d7]))
      | some .setMta => .ok (.wireSetMta f.id f.ext d1 d2 d3 (ofBytes 32 [d4, d5, d6, d7]))
      | some .download => .ok (.wireDownload f.id f.ext d1 d2 (ofBytes 40 [d3, d4, d5, d6, d7]))
      | some .upload => .ok (.wireUpload f.id f.ext d1 d2 (ofBytes 40 [d3, d4, d5, d6, d7]))
      | some .disconnect => .ok (.wireDisconnect f.id f.ext d1 (ofBytes 48 [d2, d3, d4, d5, d6, d7]))
      | some .buildChecksum =>
        .ok (.wireBuildChecksum f.id f.ext d1 (ofBytes 32 [d2, d3, d4, d5]) (ofBytes 16 [d6, d7]))
      | some .clearMemory =>
        .ok (.wireClearMemory f.id f.ext d1 (ofBytes 32 [d2, d3, d4, d5]) (ofBytes 16 [d6, d7]))
      | some .unlock =>
        .ok (.wireUnlock f.id f.ext d1 d2 (ofBytes 16 [d3, d4]) (ofBytes 24 [d5, d6, d7]))
      | some .actionService => .ok (.wireActionService f.id f.ext d1 (ofBytes 48 [d2, d3, d4, d5, d6, d7]))
      | some .download6 => .ok (.wireDownload6 f.id f.ext d1 (ofBytes 48 [d2, d3, d4, d5, d6, d7]))
      | none => .error (.unknownCode d0)
  | _ => .error (.frameLength f.len)

/-- The instruction an input event carries. -/
def decode (c : Config) : Event → Except DecodeError Instr
  | .op sel args => decodeOp sel args
  | .rx f => decodeWire c f
  | .tick => .error .notAnInstruction
  | .reset => .error .notAnInstruction

/-! ### Encoding -/

/-- The event that presents an instruction: R90's selectors and operands, R63 and R69 to R78's layouts. -/
def encode (c : Config) : Instr → Event
  | .wireConnect id ext ctr station pad => .rx (wireConnectFrame c id ext ctr station pad)
  | .wireSetMta id ext ctr reserved extension address =>
    .rx (wireSetMtaFrame c id ext ctr reserved extension address)
  | .wireDownload id ext ctr length data => .rx (wireDownloadFrame c id ext ctr length data)
  | .wireUpload id ext ctr count pad => .rx (wireUploadFrame c id ext ctr count pad)
  | .wireDisconnect id ext ctr pad => .rx (wireDisconnectFrame c id ext ctr pad)
  | .wireBuildChecksum id ext ctr length checksum => .rx (wireBuildChecksumFrame c id ext ctr length checksum)
  | .wireClearMemory id ext ctr length pad => .rx (wireClearMemoryFrame c id ext ctr length pad)
  | .wireUnlock id ext ctr lead password pad => .rx (wireUnlockFrame c id ext ctr lead password pad)
  | .wireActionService id ext ctr payload => .rx (wireActionServiceFrame c id ext ctr payload)
  | .wireDownload6 id ext ctr data => .rx (wireDownload6Frame c id ext ctr data)
  | .wireReply id ext status ctr payload => .rx (wireReplyFrame id ext status ctr payload)
  | .crcSeed m => .op 0x00 [.mask m]
  | .crcLoad lane v => .op 0x01 [.lane (laneNumber lane), .half v]
  | .crcUpdate m b => .op 0x02 [.mask m, .byte b]
  | .crcRead lane => .op 0x03 [.lane (laneNumber lane)]
  | .encodeCommand code ctr p => .op 0x10 [.code code, .byte ctr, .bytes p]
  | .encodeReply status ctr p => .op 0x11 [.byte status, .byte ctr, .bytes p]
  | .decodeFrame f => .op 0x12 [.frame f]
  | .connect station => .op 0x20 [.byte station]
  | .disconnect => .op 0x21 []
  | .setMta e a => .op 0x22 [.extension e, .word a]
  | .unlock p => .op 0x23 [.password p]
  | .download d => .op 0x24 [.bytes d]
  | .download6 d => .op 0x25 [.bytes d]
  | .upload n block => .op 0x26 [.byte n, .flag block]
  | .buildChecksum k len => .op 0x27 [.half k, .word len]
  | .clearMemory => .op 0x28 []
  | .cancel => .op 0x2F []
  | .retry op times accept => .op 0x30 [.operation op, .byte times, .kinds accept]

/-! ### Words of the opcode table -/

/-- The operands of a selector, each at its zero: zero bits, the empty string, false, the first member of an
enumeration, the first controller operation with a zero operand, the empty set (notes/assumptions/4.md). -/
def zeroOperands (sel : Nat) : List Operand :=
  match sel with
  | 0x00 => [.mask 0]
  | 0x01 => [.lane 0, .half 0]
  | 0x02 => [.mask 0, .byte 0]
  | 0x03 => [.lane 0]
  | 0x10 => [.code .connect, .byte 0, .bytes []]
  | 0x11 => [.byte 0, .byte 0, .bytes []]
  | 0x12 => [.frame { id := 0, ext := false, data := [] }]
  | 0x20 => [.byte 0]
  | 0x22 => [.extension .flashMemory, .word 0]
  | 0x23 => [.password .dspFlash]
  | 0x24 => [.bytes []]
  | 0x25 => [.bytes []]
  | 0x26 => [.byte 0, .flag false]
  | 0x27 => [.half 0, .word 0]
  | 0x30 => [.operation (.connect 0), .byte 0, .kinds {}]
  | _ => []

/-- The frame whose 8 data bytes are the 64 bits of `w`, `d[0]` being bits 63 to 56 as the table's own numbering has it
(30_encoding.md section 7), with the identifier of its format and an extended identifier (R86, R60;
notes/assumptions/5.md). -/
def tableFrame (c : Config) (w : Nat) : Frame :=
  let v := BitVec.ofNat 64 w
  { id := if byteAt 7 v = replyMarker then c.idReply else c.idHost
    ext := true
    data := [byteAt 7 v, byteAt 6 v, byteAt 5 v, byteAt 4 v, byteAt 3 v, byteAt 2 v, byteAt 1 v, byteAt 0 v] }

/-- The event that presents a word of the table: 64 bits are the data of a frame at the RX port, 8 bits a selector at
the operation port with every operand at its zero. -/
def tableEvent (c : Config) (nbits w : Nat) : Event :=
  if nbits = 64 then .rx (tableFrame c w) else .op (BitVec.ofNat 8 w) (zeroOperands (w % 256))

/-- The instruction the decoder reads from a word of spec/opcode_table.json (whose codes are those of TESTCFG). -/
def decodeTableWord (nbits w : Nat) : Option Instr :=
  if nbits = 64 ∨ nbits = 8 then
    match decode Config.test (tableEvent Config.test nbits w) with
    | .ok i => some i
    | .error _ => none
  else none

end Sys2Proof
end

