-- ==== Sys2Proof/Machine/State.lean ====
section
/-!
DEFINITION. The state of the block (10_state.md), its errors (60_exceptions.md), the outputs of a step (00_scope.md
section 6), and the state after reset (R26).
-/

namespace Sys2Proof.Machine

/-- The reasons the machine stops with a fault: none. Every error of the spec is a value that a step delivers and after
which "the block is ready for the next event" (R226); none stops the block, so nothing raises a fault (safe). -/
inductive Fault where
deriving DecidableEq, Repr

/-- The reasons the machine refuses to go on. -/
inductive Refusal where
  /-- The instruction has no meaning in this model. Raised by an arm of `exec` alone; every instruction of the table has
  its meaning, so no arm raises it (safe: the model stops where the hardware goes on). -/
  | notModelled (mnemonic : String)
deriving DecidableEq, Repr

/-- HandlerState (R13): `idle` and `connected` are stable, the other nine are waiting states. -/
inductive HandlerState where
  | idle
  | connecting
  | connected
  | disconnecting
  | settingMta
  | downloading
  | download6ing
  | unlocking
  | buildingChecksum
  | clearingMemory
  | uploading
deriving DecidableEq, Repr

/-- The category an error reports for a status byte: `CATEGORY[s]`, or unknown for a byte that is no member's value
(R228). -/
inductive ReportedCategory where
  | known (k : StatusClass)
  | unknown
deriving DecidableEq, Repr

/-- Why a frame is not the matching acknowledge reply (R223). -/
inductive Reason where
  | wrongIdentifier
  | notAReply
  | noOutstanding
  | wrongCounter
  | nonAcknowledge (status : Byte) (member : Option CommandStatus) (category : ReportedCategory) (toFault : Bool)
deriving DecidableEq, Repr

/-- The errors of the block (R220): "a model represents them as the constructors of one type". -/
inductive Err where
  /-- A frame to be decoded has not 8 data bytes (R122). -/
  | messageLength
  /-- A frame to be decoded has `ext = false` (R123). -/
  | identifierType
  /-- A payload does not fit its window, or operands break a length contract (R126, R152). -/
  | payloadLength
  /-- An operation is issued while one is outstanding (R221). -/
  | handlerBusy
  /-- An operation is issued in a stable state that does not allow it (R222). -/
  | stateViolation
  /-- An inbound frame is not the matching acknowledge reply (R223). -/
  | unexpectedMessage (r : Reason)
  /-- The timer ran out (R224). -/
  | requestTimeout
  /-- `CANCEL` ended the transaction (R225). -/
  | cancelled
deriving DecidableEq, Repr

/-- A decoded packet (41_codec.md section 1). -/
inductive Packet where
  | command (code : Byte) (member : Option CommandCode) (ctr : Byte) (payload : List Byte)
  | reply (status : Byte) (member : Option CommandStatus) (ctr : Byte) (payload : List Byte)
deriving DecidableEq, Repr

/-- The synchronous response to an operation (00_scope.md section 6). -/
inductive Response where
  /-- The operation is accepted; its result comes by `Resolve` (R141). -/
  | accepted
  /-- A CRC value (R107). -/
  | value (v : Half)
  /-- An encoded frame (R121, R125). -/
  | frame (f : Frame)
  /-- A decoded packet (R124). -/
  | packet (p : Packet)
  /-- The operation is refused (R226). -/
  | err (e : Err)
deriving DecidableEq, Repr

/-- The result of a transaction (00_scope.md section 6). -/
inductive Result where
  | ok (bytes : List Byte)
  | err (e : Err)
deriving DecidableEq, Repr

/-- The outputs of one step (00_scope.md section 6, R242): each port carries at most one thing. -/
structure Outputs where
  /-- `Respond(v)`. -/
  respond : Option Response := none
  /-- `Tx(frame)`. -/
  tx : Option Frame := none
  /-- `Resolve(r)`. -/
  resolve : Option Result := none
  /-- `Violation(e)`. -/
  violation : Option Err := none
deriving DecidableEq, Repr

/-- The state (R10), with the configuration, the two ports and the model's own counter (INVENTORY.md, State). -/
structure State where
  /-- The configuration; no step writes it (R10). -/
  cfg : Config
  /-- `crc[0]` (R11). -/
  crc0 : Half
  /-- `crc[1]` (R11). -/
  crc1 : Half
  /-- `state` (R13). -/
  state : HandlerState
  /-- `active` (R15). -/
  active : Bool
  /-- `send_ctr` (R18). -/
  sendCtr : Byte
  /-- `last_ctr` (R19). -/
  lastCtr : Byte
  /-- `timer`, in ticks (R20). -/
  timer : Nat
  /-- `up_n` (R21). -/
  upN : Byte
  /-- `up_buf` (R21). -/
  upBuf : List Byte
  /-- `r_active` (R190). -/
  rActive : Bool
  /-- `r_op` (R190). -/
  rOp : CtrlOp
  /-- `r_left` (R190). -/
  rLeft : Byte
  /-- `r_accept` (R190). -/
  rAccept : KindSet
  /-- The outputs of the step just taken (notes/assumptions/3.md). -/
  out : Outputs
  /-- The input events the environment will present, the next one first (notes/assumptions/1.md). -/
  events : List Event
  /-- The model's own: how many RESET events were taken; selects the free values (notes/assumptions/8.md). -/
  freeIdx : Nat
deriving DecidableEq, Repr

/-- The machine right after reset (R26), under TESTCFG (notes/assumptions/2.md). `r_op`, `r_left` and `r_accept` have
no reset value in the spec; the model's are CONNECT(0), 0 and the empty set (notes/assumptions/7.md). -/
def State.reset : State where
  cfg := Config.test
  crc0 := 0xFFFF
  crc1 := 0xFFFF
  state := .idle
  active := false
  sendCtr := 0
  lastCtr := 0
  timer := 0
  upN := 0
  upBuf := []
  rActive := false
  rOp := .connect 0
  rLeft := 0
  rAccept := {}
  out := {}
  events := []
  freeIdx := 0

end Sys2Proof.Machine
end

