-- ==== Sys2Proof/Machine/Operands.lean ====
section
/-!
DEFINITION. Operand forms: byte strings, frames assembled from operands (30_encoding.md section 2), and what each
controller operation makes of its operands (42_controller_ops.md section 2).
-/

namespace Sys2Proof

/-! ### Byte strings (00_scope.md section 5) -/

/-- `zeros(n)`. -/
def zeros (n : Nat) : List Byte := List.replicate n 0

/-- `swap_pairs(s)`: every pair of bytes exchanged (R44). On a string of odd length, which no rule hands it, the last
byte stays. -/
def swapPairs : List Byte → List Byte
  | a :: b :: rest => b :: a :: swapPairs rest
  | rest => rest

/-- `d[i]` of a frame's data (R60). -/
def Frame.byte (f : Frame) (i : Nat) : Byte := f.data.getD i 0

/-! ### Frames (R64, R66) -/

/-- `CMD_WINDOW` (R62, R130). -/
def cmdWindow : Nat := 6

/-- `REPLY_WINDOW` (R63). -/
def replyWindow : Nat := 5

/-- `command_frame(code, ctr, p)` (R64): `ID_HOST`, extended, the payload zero-padded at its end (R65). -/
def commandFrame (c : Config) (code ctr : Byte) (p : List Byte) : Frame :=
  { id := c.idHost, ext := true, data := [code, ctr] ++ p ++ zeros (cmdWindow - p.length) }

/-- `reply_frame(status, ctr, p)` (R66). -/
def replyFrame (c : Config) (status ctr : Byte) (p : List Byte) : Frame :=
  { id := c.idReply, ext := true, data := [replyMarker, status, ctr] ++ p ++ zeros (replyWindow - p.length) }

/-! ### Enumerated operands -/

/-- The member an address extension stands for; the two further names are each "a second name
for the value of one of the four members" (R80). -/
def Config.region (c : Config) : AddressExtension → Region
  | .flashMemory => .flashMemory
  | .configurationRegisters => .configurationRegisters
  | .eepromMemoryBootloader => .eepromMemoryBootloader
  | .eepromMemoryData => .eepromMemoryData
  | .raw => c.rawStandsFor
  | .dataLogger => c.dataLoggerStandsFor

/-- `EXT[e]` (R80). -/
def Config.extByte (c : Config) (e : AddressExtension) : Byte := c.ext.get (c.region e)

/-- `PASSWORD[p]` (R81); a free value for a name that is no member (notes/assumptions/6.md). -/
def Config.passwordValue (c : Config) : Password → Half
  | .dspFlash => c.passwordDspFlash
  | .other k => c.passwordOthers.getD k (Config.absentPassword k)

/-! ### The controller operations -/

/-- `MTA_RESERVED` (R71). -/
def mtaReserved : Byte := 0x00

/-- `UNLOCK_PREFIX` (R72). -/
def unlockLead : Byte := 0x02

/-- `CLEAR_LENGTH` (R77, C2). -/
def clearLength : Word32 := 0x000000FF

/-- `DOWNLOAD_MAX` (R47, R146). -/
def downloadMax : Nat := 5

/-- `DOWNLOAD6_LEN` (R47, R147). -/
def download6Len : Nat := 6

/-- `UPLOAD_MAX_NORMAL` (R47, R148). -/
def uploadMaxNormal : Nat := 5

/-- The command code of an operation (R142 to R150). -/
def CtrlOp.code : CtrlOp → CommandCode
  | .connect _ => .connect
  | .disconnect => .disconnect
  | .setMta _ _ => .setMta
  | .unlock _ => .unlock
  | .download _ => .download
  | .download6 _ => .download6
  | .upload _ _ => .upload
  | .buildChecksum _ _ => .buildChecksum
  | .clearMemory => .clearMemory

/-- The waiting state of an operation (R14, second column of R14's table read backwards). -/
def CtrlOp.waitingState : CtrlOp → Machine.HandlerState
  | .connect _ => .connecting
  | .disconnect => .disconnecting
  | .setMta _ _ => .settingMta
  | .unlock _ => .unlocking
  | .download _ => .downloading
  | .download6 _ => .download6ing
  | .upload _ _ => .uploading
  | .buildChecksum _ _ => .buildingChecksum
  | .clearMemory => .clearingMemory

/-- `allowed_from(op)` (R140). -/
def CtrlOp.allowedFrom : CtrlOp → Machine.HandlerState
  | .connect _ => .idle
  | .disconnect => .connected
  | .setMta _ _ => .connected
  | .unlock _ => .connected
  | .download _ => .connected
  | .download6 _ => .connected
  | .upload _ _ => .connected
  | .buildChecksum _ _ => .connected
  | .clearMemory => .connected

/-- The payload contract of an operation (test 3 of R140): only `DOWNLOAD` (R146), `DOWNLOAD_6` (R147) and `UPLOAD`
(R148) can break theirs. -/
def CtrlOp.contractHolds : CtrlOp → Bool
  | .connect _ => true
  | .disconnect => true
  | .setMta _ _ => true
  | .unlock _ => true
  | .download d => decide (d.length ≤ downloadMax) && decide (d.length % 2 = 0)
  | .download6 d => decide (d.length = download6Len)
  | .upload n block => block || decide (n.toNat ≤ uploadMaxNormal)
  | .buildChecksum _ _ => true
  | .clearMemory => true

/-- The payload an operation builds (R142 to R150). -/
def CtrlOp.payload (c : Config) : CtrlOp → List Byte
  | .connect station => [station]
  | .disconnect => []
  | .setMta e a => [mtaReserved, c.extByte e] ++ be32 a
  | .unlock p => [unlockLead] ++ be16 (c.passwordValue p)
  | .download d => [BitVec.ofNat 8 d.length] ++ swapPairs d
  | .download6 d => swapPairs d
  | .upload n _ => [n]
  | .buildChecksum k len => be32 len ++ be16 k
  | .clearMemory => be32 clearLength

end Sys2Proof
end

