-- ==== Sys2Proof/Machine/Flags.lean ====
section
/-!
DEFINITION. The conditions the steps test: which states wait (R14, R16), where a state goes (R14), the tests of an
inbound frame (R170 to R172), and what an error says of itself (R190, R220, R227, R228). The block has one status flag,
`active` (R15), and no condition codes.
-/

namespace Sys2Proof.Machine

/-! ### HandlerState (R14) -/

/-- A waiting state: any but `idle` and `connected` (R13). -/
def HandlerState.waiting : HandlerState → Bool
  | .idle => false
  | .connected => false
  | .connecting => true
  | .disconnecting => true
  | .settingMta => true
  | .downloading => true
  | .download6ing => true
  | .unlocking => true
  | .buildingChecksum => true
  | .clearingMemory => true
  | .uploading => true

/-- `ack_state(state)`: connecting to connected, disconnecting to idle, every other to connected (R173, R14's fourth
column; notes/assumptions/11.md for the stable states). -/
def HandlerState.ackState : HandlerState → HandlerState
  | .disconnecting => .idle
  | _ => .connected

/-- `entered_from(state)`: connecting to idle, every other to connected (R176, R14's third column). -/
def HandlerState.enteredFrom : HandlerState → HandlerState
  | .connecting => .idle
  | _ => .connected

/-! ### Status and category (R227, R228) -/

/-- ErrorCategory (R227). -/
inductive ErrorCategory where
  | timeout
  | c0
  | c1
  | c2
  | c3
deriving DecidableEq, Repr

/-- The recommended recovery actions of R227's table. -/
inductive RecoveryAction where
  | retry
  | noAction
  | waitAndRetry
  | reinitialize
  | terminate
deriving DecidableEq, Repr

/-- R227's description column; "data for the host", which no rule of the block reads. -/
def ErrorCategory.description : ErrorCategory → String
  | .timeout => "no reply within the configured timeout"
  | .c0 => "warning"
  | .c1 => "spurious"
  | .c2 => "resolvable"
  | .c3 => "unresolvable"

/-- R227's recommended action column. -/
def ErrorCategory.action : ErrorCategory → RecoveryAction
  | .timeout => .retry
  | .c0 => .noAction
  | .c1 => .waitAndRetry
  | .c2 => .reinitialize
  | .c3 => .terminate

/-- R227's retry budget column (c0: "a model takes 0"); the arbiter does not read it (R195). -/
def ErrorCategory.retryBudget : ErrorCategory → Nat
  | .timeout => 2
  | .c0 => 0
  | .c1 => 2
  | .c2 => 1
  | .c3 => 0

/-- R227's `to_fault` column. -/
def ErrorCategory.toFault : ErrorCategory → Bool
  | .timeout => false
  | .c0 => false
  | .c1 => true
  | .c2 => true
  | .c3 => true

/-- The error category that a `CATEGORY[s]` value names, if any. -/
def errorCategoryOf : StatusClass → Option ErrorCategory
  | .none => none
  | .c0 => some .c0
  | .c1 => some .c1
  | .c2 => some .c2
  | .c3 => some .c3

/-- `category_of(b)` (R228). -/
def categoryOf (c : Config) (b : Byte) : ReportedCategory :=
  match lookupStatus c b with
  | some m => .known (c.category.get m)
  | none => .unknown

/-- `fault_of(b)` (R228): true for c1, c2, c3 and unknown, false for none and c0. -/
def faultOf (c : Config) (b : Byte) : Bool :=
  match categoryOf c b with
  | .known k =>
    match errorCategoryOf k with
    | some e => e.toFault
    | none => false
  | .unknown => true

/-! ### Errors (R190, R220) -/

/-- The kind of an error: it "ignores its further fields" (R190). -/
def Err.kind : Err → ErrorKind
  | .messageLength => .messageLength
  | .identifierType => .identifierType
  | .payloadLength => .payloadLength
  | .handlerBusy => .handlerBusy
  | .stateViolation => .stateViolation
  | .unexpectedMessage _ => .unexpectedMessage
  | .requestTimeout => .requestTimeout
  | .cancelled => .cancelled

/-- Membership in a set of error kinds (R190). -/
def kindIn (k : ErrorKind) (a : KindSet) : Bool :=
  match k with
  | .messageLength => a.messageLength
  | .identifierType => a.identifierType
  | .payloadLength => a.payloadLength
  | .handlerBusy => a.handlerBusy
  | .stateViolation => a.stateViolation
  | .unexpectedMessage => a.unexpectedMessage
  | .requestTimeout => a.requestTimeout
  | .cancelled => a.cancelled

/-- The error category of an error, for the host's recovery table (R227): a timeout is "classified under
`ErrorCategory.timeout`" (R224), a non-acknowledge reply under its status's category (R228). -/
def Err.errorCategory : Err → Option ErrorCategory
  | .requestTimeout => some .timeout
  | .unexpectedMessage (.nonAcknowledge _ _ (.known k) _) => errorCategoryOf k
  | _ => none

/-- The "transition to fault" signal of an error: a field of the error value, not a register (R17). -/
def Err.toFault : Err → Bool
  | .unexpectedMessage (.nonAcknowledge _ _ _ fault) => fault
  | _ => false

/-! ### Tests on a frame and on a state -/

/-- The counter test (R171): the echoed counter is `last_ctr`, or the state is `connecting`. -/
def counterOk (s : State) (echoed : Byte) : Bool :=
  decide (s.state = .connecting) || decide (echoed = s.lastCtr)

/-- The error of a non-acknowledge status (R172). -/
def nonAckError (c : Config) (status : Byte) : Err :=
  .unexpectedMessage (.nonAcknowledge status (lookupStatus c status) (categoryOf c status) (faultOf c status))

/-- The decoder's two tests, in their order: length (R122), then identifier type (R123). -/
def frameError (f : Frame) : Option Err :=
  if f.len ≠ frameLen then some .messageLength
  else if f.ext = false then some .identifierType
  else none

/-- The error of the first of R170's seven tests that a frame fails, or none for the matching acknowledge reply. Tests 1
and 2 are the decoder's. -/
def rxError (s : State) (f : Frame) : Option Err :=
  if (frameError f).isSome then frameError f
  else if f.id ≠ s.cfg.idReply then some (.unexpectedMessage .wrongIdentifier)
  else if f.byte 0 ≠ replyMarker then some (.unexpectedMessage .notAReply)
  else if s.active = false then some (.unexpectedMessage .noOutstanding)
  else if counterOk s (f.byte 2) = false then some (.unexpectedMessage .wrongCounter)
  else if f.byte 1 ≠ s.cfg.status.get .acknowledge then some (nonAckError s.cfg (f.byte 1))
  else none

/-- Bit `i` of a lane mask selects lane `i` (R104, R106). -/
def laneSelected (mask : BitVec 2) : Lane → Bool
  | .zero => mask.getLsbD 0
  | .one => mask.getLsbD 1

end Sys2Proof.Machine
end

