-- ==== Sys2Proof/Machine/Ops.lean ====
section
/-!
DEFINITION. The named operations over the registers and ports: the outputs of a step, issuing a command (R141),
presenting an operation to the controller (R140), delivering a result through the retry arbiter (R192), and taking an
error: `fail` (R176), the one way a transaction ends without acknowledgement.
-/

namespace Sys2Proof.Machine

/-! ### Ports (00_scope.md section 6) -/

/-- The state at the start of a step: no output yet. -/
def State.quiet (s : State) : State := { s with out := {} }

/-- `Respond(v)`. -/
def State.respond (s : State) (v : Response) : State := { s with out := { s.out with respond := some v } }

/-- `Tx(frame)`. -/
def State.transmit (s : State) (f : Frame) : State := { s with out := { s.out with tx := some f } }

/-- `Resolve(r)`, delivered to the host. -/
def State.resolved (s : State) (r : Result) : State := { s with out := { s.out with resolve := some r } }

/-- `Violation(e)`. -/
def State.violation (s : State) (e : Err) : State := { s with out := { s.out with violation := some e } }

/-- An input that selects nothing in this block: "no change of state, no output" (R83, R90, R110, U8). -/
def State.ignored (s : State) : State := s.quiet

/-! ### Which units are present (R1) -/

/-- A controller operation of this block: the controller is present and the operands are in their types. -/
def State.admits (s : State) (op : CtrlOp) : Bool := s.cfg.hasController && op.wellFormed s.cfg

/-- `RETRY` of this block: the arbiter is present too. -/
def State.admitsRetry (s : State) (op : CtrlOp) : Bool :=
  s.cfg.hasController && s.cfg.hasRetry && op.wellFormed s.cfg

/-! ### CRC lanes (R11) -/

/-- `crc[lane]`. -/
def State.lane (s : State) : Lane → Half
  | .zero => s.crc0
  | .one => s.crc1

/-- `crc[lane] <- v`. -/
def State.setLane (s : State) (lane : Lane) (v : Half) : State :=
  match lane with
  | .zero => { s with crc0 := v }
  | .one => { s with crc1 := v }

/-- Apply `g` to every lane that the mask selects (R104, R106). -/
def State.mapLanes (s : State) (mask : BitVec 2) (g : Half → Half) : State :=
  { s with
    crc0 := if laneSelected mask .zero then g s.crc0 else s.crc0
    crc1 := if laneSelected mask .one then g s.crc1 else s.crc1 }

/-! ### Issuing a command (R140, R141) -/

/-- `issue(c, p, w)` (R141), but for `Respond(Accepted)`, which goes to the host only when the host issued the operation
(R191). -/
def issue (c : CommandCode) (p : List Byte) (w : HandlerState) (s : State) : State :=
  State.transmit
    { s with
      lastCtr := s.sendCtr
      sendCtr := s.sendCtr + 1
      state := w
      active := true
      timer := s.cfg.timeout.get c }
    (commandFrame s.cfg (s.cfg.code.get c) s.sendCtr p)

/-- The registers an operation latches before it issues its command: `UPLOAD` its count, with an empty buffer (R148);
the others none. -/
def latch (op : CtrlOp) (s : State) : State :=
  match op with
  | .connect _ => s
  | .disconnect => s
  | .setMta _ _ => s
  | .unlock _ => s
  | .download _ => s
  | .download6 _ => s
  | .upload n _ => { s with upN := n, upBuf := [] }
  | .buildChecksum _ _ => s
  | .clearMemory => s

/-- What an accepted operation does (R141 with the payload of R142 to R150). -/
def accept (op : CtrlOp) (s : State) : State :=
  issue op.code (op.payload s.cfg) op.waitingState (latch op s)

/-- The first of R140's three tests that an operation fails: busy, then state, then length. -/
def refusal (op : CtrlOp) (s : State) : Option Err :=
  if s.active = true then some .handlerBusy
  else if s.state ≠ op.allowedFrom then some .stateViolation
  else if op.contractHolds = false then some .payloadLength
  else none

/-! ### The retry arbiter (R191, R192) -/

/-- How an `attempt` that ends in refusal reports its error: to the host's operation, or as the result (R191). -/
def State.report (s : State) (sync : Bool) (e : Err) : State :=
  if sync then s.respond (.err e) else s.resolved (.err e)

/-- `attempt(sync)` (R191). The first argument is `r_left` as a number, by which the loop ends: each time round
`r_left` is one less. -/
def attempt (sync : Bool) : Nat → State → State
  | left, s =>
    match refusal s.rOp s with
    | none =>
      let t := { accept s.rOp s with rActive := true }
      if sync then t.respond .accepted else t
    | some e =>
      match left with
      | 0 => { s with rActive := false }.report sync e
      | left' + 1 =>
        if kindIn e.kind s.rAccept then attempt sync left' { s with rLeft := s.rLeft - 1 }
        else { s with rActive := false }.report sync e

/-- `Resolve(r)` of the controller: the arbiter takes it in place of the host while a wrapper is in progress (R192);
otherwise it passes through (R190; notes/assumptions/14.md). -/
def deliver (r : Result) (s : State) : State :=
  if (s.cfg.hasRetry && s.rActive) = true then
    match r with
    | .ok bytes => { s with rActive := false }.resolved (.ok bytes)
    | .err e =>
      if (kindIn e.kind s.rAccept && decide (0 < s.rLeft.toNat)) = true then
        attempt false (s.rLeft.toNat - 1) { s with rLeft := s.rLeft - 1 }
      else { s with rActive := false }.resolved (.err e)
  else s.resolved r

/-! ### Taking an error (R176) -/

/-- `fail(e)` (R176): back to the stable state the operation was entered from, and the error as the result. -/
def fail (e : Err) (s : State) : State :=
  deliver (.err e) { s with state := s.state.enteredFrom, active := false, timer := 0 }

/-- A transaction acknowledged (R173): on to the state of R14's fourth column, with the success value. -/
def succeed (bytes : List Byte) (s : State) : State :=
  deliver (.ok bytes) { s with state := s.state.ackState, active := false, timer := 0 }

end Sys2Proof.Machine
end

