-- ==== Sys2Proof/Machine/Codec.lean ====
section
/-!
DEFINITION. The codec (41_codec.md): `ENCODE_COMMAND`, `ENCODE_REPLY`, `DECODE`. "a pure function of its operands and of
the configuration"; no register is read or written (R120).
-/

namespace Sys2Proof.Machine

/-- The response of `ENCODE_COMMAND` (R121): `PayloadLengthError` over the 6-byte window, which is the same for every
command code (R130). -/
def encodeCommand (c : Config) (code : CommandCode) (ctr : Byte) (p : List Byte) : Response :=
  if cmdWindow < p.length then .err .payloadLength else .frame (commandFrame c (c.code.get code) ctr p)

/-- The response of `ENCODE_REPLY` (R125). -/
def encodeReply (c : Config) (status ctr : Byte) (p : List Byte) : Response :=
  if replyWindow < p.length then .err .payloadLength else .frame (replyFrame c status ctr p)

/-- The packet of a frame of 8 bytes (R124): classified by the first byte and by nothing else (R129). -/
def packetOf (c : Config) (f : Frame) : Packet :=
  if f.byte 0 = replyMarker then
    .reply (f.byte 1) (lookupStatus c (f.byte 1)) (f.byte 2) (f.data.drop 3)
  else .command (f.byte 0) (lookupCode c (f.byte 0)) (f.byte 1) (f.data.drop 2)

/-- The response of `DECODE` (R124). -/
def decodePacket (c : Config) (f : Frame) : Response :=
  match frameError f with
  | some e => .err e
  | none => .packet (packetOf c f)

/-- `ENCODE_COMMAND(code, ctr, p)` (R121). -/
def execEncodeCommand (code : CommandCode) (ctr : Byte) (p : List Byte) (s : State) :
    Host.Outcome State Fault Refusal :=
  .next (s.quiet.respond (encodeCommand s.cfg code ctr p))

/-- `ENCODE_REPLY(status, ctr, p)` (R125). -/
def execEncodeReply (status ctr : Byte) (p : List Byte) (s : State) : Host.Outcome State Fault Refusal :=
  .next (s.quiet.respond (encodeReply s.cfg status ctr p))

/-- `DECODE(frame)` (R124). -/
def execDecodeFrame (f : Frame) (s : State) : Host.Outcome State Fault Refusal :=
  .next (s.quiet.respond (decodePacket s.cfg f))

end Sys2Proof.Machine
end

