-- ==== Sys2Proof/Machine/Controller.lean ====
section
/-!
DEFINITION. The controller operations issued by the host (42_controller_ops.md) and `CANCEL` (43_controller_events.md
R180). Where the controller is absent they select no operation.
-/

namespace Sys2Proof.Machine

/-- A controller operation at the operation port (R140, R141): refused with no register changed, or accepted. -/
def present (op : CtrlOp) (s : State) : State :=
  if s.admits op = true then
    match refusal op s with
    | some e => s.quiet.respond (.err e)
    | none => (accept op s.quiet).respond .accepted
  else s.ignored

/-- `CONNECT(station)` (R142). -/
def execConnect (station : Byte) (s : State) : Host.Outcome State Fault Refusal :=
  .next (present (.connect station) s)

/-- `DISCONNECT()` (R143). -/
def execDisconnect (s : State) : Host.Outcome State Fault Refusal :=
  .next (present .disconnect s)

/-- `SET_MTA(e, a)` (R144). -/
def execSetMta (e : AddressExtension) (a : Word32) (s : State) : Host.Outcome State Fault Refusal :=
  .next (present (.setMta e a) s)

/-- `UNLOCK(p)` (R145). -/
def execUnlock (p : Password) (s : State) : Host.Outcome State Fault Refusal :=
  .next (present (.unlock p) s)

/-- `DOWNLOAD(s)` (R146). -/
def execDownload (d : List Byte) (s : State) : Host.Outcome State Fault Refusal :=
  .next (present (.download d) s)

/-- `DOWNLOAD_6(s)` (R147). -/
def execDownload6 (d : List Byte) (s : State) : Host.Outcome State Fault Refusal :=
  .next (present (.download6 d) s)

/-- `UPLOAD(n, block)` (R148). -/
def execUpload (n : Byte) (block : Bool) (s : State) : Host.Outcome State Fault Refusal :=
  .next (present (.upload n block) s)

/-- `BUILD_CHECKSUM(k, L)` (R149). -/
def execBuildChecksum (k : Half) (len : Word32) (s : State) : Host.Outcome State Fault Refusal :=
  .next (present (.buildChecksum k len) s)

/-- `CLEAR_MEMORY()` (R150). -/
def execClearMemory (s : State) : Host.Outcome State Fault Refusal :=
  .next (present .clearMemory s)

/-- A retry wrapper in progress is abandoned before the transaction fails (R180, R194). -/
def State.abandonRetry (s : State) : State :=
  if s.cfg.hasRetry = true then { s with rActive := false } else s

/-- `CANCEL()` (R180): never refused; without effect when nothing is outstanding. -/
def execCancel (s : State) : Host.Outcome State Fault Refusal :=
  .next
    (if s.cfg.hasController = true then
      (if s.active = true then fail .cancelled s.quiet.abandonRetry else s.quiet.abandonRetry).respond .accepted
    else s.ignored)

end Sys2Proof.Machine
end

