-- ==== Sys2Proof/Machine/Crc.lean ====
section
/-!
DEFINITION. The CRC unit (40_crc.md): `crc_step`, `crc16`, and the operations `CRC_SEED`, `CRC_LOAD`, `CRC_UPDATE` and
`CRC_READ`. They "may be issued at any time, whatever the controller is doing", raise no error and write no flag.
Only `CRC_READ` responds (notes/assumptions/9.md).
-/

namespace Sys2Proof.Machine

/-- `CRC_POLY` (R100). -/
def crcPoly : Half := 0xA001

/-- `CRC_SEED` (R102). -/
def crcSeedValue : Half := 0xFFFF

/-- One of the eight iterations of R101: the test of bit 0 is made before the shift. -/
def crcShift (c : Half) : Half :=
  if c.getLsbD 0 = true then (c >>> 1) ^^^ crcPoly else c >>> 1

/-- `n` iterations. -/
def crcShifts : Nat → Half → Half
  | 0, c => c
  | n + 1, c => crcShifts n (crcShift c)

/-- `crc_step(c, b)` (R101). -/
def crcStep (c : Half) (b : Byte) : Half := crcShifts 8 (c ^^^ b.setWidth 16)

/-- `crc16(s, r)` (R102): the seed when `r` is none. -/
def crc16 (s : List Byte) (r : Option Half) : Half := s.foldl crcStep (r.getD crcSeedValue)

/-- `CRC_SEED(mask)` (R104). -/
def execCrcSeed (mask : BitVec 2) (s : State) : Host.Outcome State Fault Refusal :=
  .next (s.quiet.mapLanes mask fun _ => crcSeedValue)

/-- `CRC_LOAD(lane, v)` (R105). -/
def execCrcLoad (lane : Lane) (v : Half) (s : State) : Host.Outcome State Fault Refusal :=
  .next (s.quiet.setLane lane v)

/-- `CRC_UPDATE(mask, b)` (R106). -/
def execCrcUpdate (mask : BitVec 2) (b : Byte) (s : State) : Host.Outcome State Fault Refusal :=
  .next (s.quiet.mapLanes mask fun c => crcStep c b)

/-- `CRC_READ(lane)` (R107). -/
def execCrcRead (lane : Lane) (s : State) : Host.Outcome State Fault Refusal :=
  .next (s.quiet.respond (.value (s.lane lane)))

end Sys2Proof.Machine
end

