-- ==== Sys2Proof/Machine/Retry.lean ====
section
/-!
DEFINITION. `RETRY` (44_retry.md R191). What the arbiter does with a result is `deliver`, in Machine/Ops.lean (R192).
-/

namespace Sys2Proof.Machine

/-- `RETRY(op, times, accept)` (R191): busy while a wrapper is in progress; else the three registers are latched and the
operation is attempted, the response of the last attempt being the host's
(notes/assumptions/10.md). -/
def execRetry (op : CtrlOp) (times : Byte) (accept : KindSet) (s : State) : Host.Outcome State Fault Refusal :=
  .next
    (if s.admitsRetry op = true then
      (if s.rActive = true then s.quiet.respond (.err .handlerBusy)
      else attempt true times.toNat { s.quiet with rOp := op, rLeft := times, rAccept := accept })
    else s.ignored)

end Sys2Proof.Machine
end

