-- ==== Sys2Proof/Machine/Wire.lean ====
section
/-!
DEFINITION. The RX step (43_controller_events.md R170 to R177) and the meaning of each wire row: a frame with that row's
first byte, presented at the RX port. A command frame is judged like any other inbound frame; it is never the matching
reply (R170 tests 3 and 4).
-/

namespace Sys2Proof.Machine

/-- `REPLY_WINDOW` bytes of a reply are `d[3..8)`; the bytes R174 takes from one: at most 5, at most those still
wanted. -/
def uploadTake (s : State) : Nat := min replyWindow (s.upN.toNat - s.upBuf.length)

/-- The matching acknowledge reply while `uploading` (R174). -/
def uploadReply (f : Frame) (s : State) : State :=
  let buf := s.upBuf ++ (f.data.drop 3).take (uploadTake s)
  if buf.length = s.upN.toNat then succeed buf { s with upBuf := buf }
  else { s with upBuf := buf, timer := s.cfg.timeout.get .upload }

/-- The matching acknowledge reply (R173, R174). -/
def acknowledge (f : Frame) (s : State) : State :=
  if s.state = .uploading then uploadReply f s else succeed [] s

/-- A frame that fails a test (R170): it fails the outstanding transaction (R176), or is a violation (R175). -/
def rejectFrame (e : Err) (s : State) : State :=
  if s.active = true then fail e s else s.violation e

/-- `RX(frame)` (R170). Without a controller "the block has no RX port". -/
def rxStep (f : Frame) (s : State) : State :=
  if s.cfg.hasController = true then
    match rxError s f with
    | some e => rejectFrame e s.quiet
    | none => acknowledge f s.quiet
  else s.ignored

/-- `connect` arriving at RX (layout R69). -/
def execWireConnect (id : CanId) (ext : Bool) (ctr station : Byte) (pad : BitVec 40) (s : State) :
    Host.Outcome State Fault Refusal :=
  .next (rxStep (wireConnectFrame s.cfg id ext ctr station pad) s)

/-- `set_mta` arriving at RX (layout R71). -/
def execWireSetMta (id : CanId) (ext : Bool) (ctr reserved extension : Byte) (address : Word32) (s : State) :
    Host.Outcome State Fault Refusal :=
  .next (rxStep (wireSetMtaFrame s.cfg id ext ctr reserved extension address) s)

/-- `download` arriving at RX (layout R73). -/
def execWireDownload (id : CanId) (ext : Bool) (ctr length : Byte) (data : BitVec 40) (s : State) :
    Host.Outcome State Fault Refusal :=
  .next (rxStep (wireDownloadFrame s.cfg id ext ctr length data) s)

/-- `upload` arriving at RX (layout R75). -/
def execWireUpload (id : CanId) (ext : Bool) (ctr count : Byte) (pad : BitVec 40) (s : State) :
    Host.Outcome State Fault Refusal :=
  .next (rxStep (wireUploadFrame s.cfg id ext ctr count pad) s)

/-- `disconnect` arriving at RX (layout R70). -/
def execWireDisconnect (id : CanId) (ext : Bool) (ctr : Byte) (pad : BitVec 48) (s : State) :
    Host.Outcome State Fault Refusal :=
  .next (rxStep (wireDisconnectFrame s.cfg id ext ctr pad) s)

/-- `build_checksum` arriving at RX (layout R76). -/
def execWireBuildChecksum (id : CanId) (ext : Bool) (ctr : Byte) (length : Word32) (checksum : Half) (s : State) :
    Host.Outcome State Fault Refusal :=
  .next (rxStep (wireBuildChecksumFrame s.cfg id ext ctr length checksum) s)

/-- `clear_memory` arriving at RX (layout R77). -/
def execWireClearMemory (id : CanId) (ext : Bool) (ctr : Byte) (length : Word32) (pad : Half) (s : State) :
    Host.Outcome State Fault Refusal :=
  .next (rxStep (wireClearMemoryFrame s.cfg id ext ctr length pad) s)

/-- `unlock` arriving at RX (layout R72). -/
def execWireUnlock (id : CanId) (ext : Bool) (ctr lead : Byte) (password : Half) (pad : BitVec 24) (s : State) :
    Host.Outcome State Fault Refusal :=
  .next (rxStep (wireUnlockFrame s.cfg id ext ctr lead password pad) s)

/-- `action_service` arriving at RX (layout R78). -/
def execWireActionService (id : CanId) (ext : Bool) (ctr : Byte) (payload : BitVec 48) (s : State) :
    Host.Outcome State Fault Refusal :=
  .next (rxStep (wireActionServiceFrame s.cfg id ext ctr payload) s)

/-- `download_6` arriving at RX (layout R74). -/
def execWireDownload6 (id : CanId) (ext : Bool) (ctr : Byte) (data : BitVec 48) (s : State) :
    Host.Outcome State Fault Refusal :=
  .next (rxStep (wireDownload6Frame s.cfg id ext ctr data) s)

/-- `reply` arriving at RX (layout R63): the matching acknowledge reply, or the frame that fails a test (R170). -/
def execWireReply (id : CanId) (ext : Bool) (status ctr : Byte) (payload : BitVec 40) (s : State) :
    Host.Outcome State Fault Refusal :=
  .next (rxStep (wireReplyFrame id ext status ctr payload) s)

end Sys2Proof.Machine
end

