-- ==== Sys2Proof/Machine/Dispatch.lean ====
section
/-!
DEFINITION. The meaning of every instruction, one arm for each constructor of Instr.
-/

namespace Sys2Proof.Machine

def exec (i : Instr) (s : State) : Host.Outcome State Fault Refusal :=
  match i with
  | .wireConnect id ext ctr station pad => Sys2Proof.Machine.execWireConnect id ext ctr station pad s
  | .wireSetMta id ext ctr reserved extension address => Sys2Proof.Machine.execWireSetMta id ext ctr reserved extension address s
  | .wireDownload id ext ctr length data => Sys2Proof.Machine.execWireDownload id ext ctr length data s
  | .wireUpload id ext ctr count pad => Sys2Proof.Machine.execWireUpload id ext ctr count pad s
  | .wireDisconnect id ext ctr pad => Sys2Proof.Machine.execWireDisconnect id ext ctr pad s
  | .wireBuildChecksum id ext ctr length checksum => Sys2Proof.Machine.execWireBuildChecksum id ext ctr length checksum s
  | .wireClearMemory id ext ctr length pad => Sys2Proof.Machine.execWireClearMemory id ext ctr length pad s
  | .wireUnlock id ext ctr lead password pad => Sys2Proof.Machine.execWireUnlock id ext ctr lead password pad s
  | .wireActionService id ext ctr payload => Sys2Proof.Machine.execWireActionService id ext ctr payload s
  | .wireDownload6 id ext ctr data => Sys2Proof.Machine.execWireDownload6 id ext ctr data s
  | .wireReply id ext status ctr payload => Sys2Proof.Machine.execWireReply id ext status ctr payload s
  | .crcSeed mask => Sys2Proof.Machine.execCrcSeed mask s
  | .crcLoad lane v => Sys2Proof.Machine.execCrcLoad lane v s
  | .crcUpdate mask b => Sys2Proof.Machine.execCrcUpdate mask b s
  | .crcRead lane => Sys2Proof.Machine.execCrcRead lane s
  | .encodeCommand code ctr p => Sys2Proof.Machine.execEncodeCommand code ctr p s
  | .encodeReply status ctr p => Sys2Proof.Machine.execEncodeReply status ctr p s
  | .decodeFrame f => Sys2Proof.Machine.execDecodeFrame f s
  | .connect station => Sys2Proof.Machine.execConnect station s
  | .disconnect => Sys2Proof.Machine.execDisconnect s
  | .setMta e a => Sys2Proof.Machine.execSetMta e a s
  | .unlock p => Sys2Proof.Machine.execUnlock p s
  | .download d => Sys2Proof.Machine.execDownload d s
  | .download6 d => Sys2Proof.Machine.execDownload6 d s
  | .upload n block => Sys2Proof.Machine.execUpload n block s
  | .buildChecksum k len => Sys2Proof.Machine.execBuildChecksum k len s
  | .clearMemory => Sys2Proof.Machine.execClearMemory s
  | .cancel => Sys2Proof.Machine.execCancel s
  | .retry op times accept => Sys2Proof.Machine.execRetry op times accept s

end Sys2Proof.Machine
end

