-- ==== Sys2Proof/Machine/Events.lean ====
section
/-!
DEFINITION. The input events that are no instruction: `TICK` (43_controller_events.md R178, R179) and `RESET`
(70_reset_and_hazards.md R260).
-/

namespace Sys2Proof.Machine

/-- `TICK` (R178, R179). Without a controller the block has no TICK input. -/
def tickStep (s : State) : State :=
  if s.cfg.hasController = true then
    if s.active = true then
      if s.timer - 1 = 0 then fail .requestTimeout { s.quiet with timer := s.timer - 1 }
      else { s.quiet with timer := s.timer - 1 }
    else s.quiet
  else s.ignored

/-- `CTR_RESET` (R18). -/
def ctrReset : Byte := 0

/-- `RESET` (R260): every register at its reset value of R26, no output. `r_op`, `r_left` and `r_accept` are unspecified
after it (R26, U9): free values. -/
def resetStep (s : State) : State :=
  { s with
    crc0 := 0xFFFF
    crc1 := 0xFFFF
    state := .idle
    active := false
    sendCtr := ctrReset
    lastCtr := 0
    timer := 0
    upN := 0
    upBuf := []
    rActive := false
    rOp := Config.freeRetryOp s.freeIdx
    rLeft := Config.freeRetryLeft s.freeIdx
    rAccept := Config.freeRetryAccept s.freeIdx
    out := {}
    freeIdx := s.freeIdx + 1 }

end Sys2Proof.Machine
end

