-- ==== Sys2Proof/Machine/Fetch.lean ====
section
/-!
DEFINITION. Taking the next input event (R50, R182: one event per step, in the order the environment presents them).
-/

namespace Sys2Proof.Machine

/-- What the next step has to do: run an instruction from a state, or go straight to a state. -/
inductive Fetched where
  | instruction (i : Instr) (s : State)
  | done (s : State)
deriving DecidableEq, Repr

/-- An event that carries no instruction: a tick, a reset, a frame that is no row (its length is not 8, or its first
byte is no code: R83, R170), or a selector and operands that select no operation (R90, R110). -/
def otherEvent (e : Event) (s : State) : State :=
  match e with
  | .op _ _ => s.ignored
  | .rx f => rxStep f s
  | .tick => tickStep s
  | .reset => resetStep s

/-- Take the next event from the sequence. With no event nothing happens and nothing is output
(notes/assumptions/1.md). -/
def fetch (s : State) : Fetched :=
  match s.events with
  | [] => .done s.quiet
  | e :: rest =>
    match decode s.cfg e with
    | .ok i => .instruction i { s with events := rest }
    | .error _ => .done (otherEvent e { s with events := rest })

/-- Present an event as the next one. -/
def State.presentEvent (e : Event) (s : State) : State := { s with events := e :: s.events }

end Sys2Proof.Machine
end

