-- ==== Sys2Proof/Machine/Step.lean ====
section
/-!
DEFINITION. The step: one input event, processed whole (00_scope.md section 6, R50).
-/

namespace Sys2Proof.Machine

/-- One step of the block. -/
def step (s : State) : Host.Outcome State Fault Refusal :=
  match fetch s with
  | .instruction i t => exec i t
  | .done t => .next t

/-- The state with a word of spec/opcode_table.json presented as the next input event (notes/assumptions/1.md, 5.md). -/
def State.withFetchWord (s : State) (nbits w : Nat) : State := s.presentEvent (tableEvent s.cfg nbits w)

end Sys2Proof.Machine
end

