-- ==== Sys2Proof/Safety.lean ====
section
/-!
DEFINITION. What a good state is: the invariants the spec states of the registers at every step boundary.
-/

namespace Sys2Proof.Machine

/-- R16: "`active` is true exactly when `state` is a waiting state". -/
abbrev State.ActiveIsWaiting (s : State) : Prop := s.active = s.state.waiting

/-- R20, R178: the timer runs from 1 to the largest timeout while a transaction is outstanding, and is 0 otherwise. -/
abbrev State.TimerArmed (s : State) : Prop :=
  (s.active = true → 1 ≤ s.timer ∧ s.timer ≤ s.cfg.maxTimeout) ∧ (s.active = false → s.timer = 0)

/-- R19: the last command's counter value is one less than the next one's. -/
abbrev State.CounterFollows (s : State) : Prop := s.active = true → s.lastCtr = s.sendCtr - 1

/-- R21, R57, R174: the upload buffer holds no more than was asked for (at most 255 bytes), and while more is awaited
it holds a whole number of 5-byte replies and less than was asked for. -/
abbrev State.UploadBounded (s : State) : Prop :=
  s.upBuf.length ≤ s.upN.toNat ∧
    (s.state = .uploading → s.upBuf.length % 5 = 0 ∧ (s.upBuf.length < s.upN.toNat ∨ s.upN = 0))

/-- R193: "`r_active` true implies `active` true"; the outstanding transaction is then an attempt of the wrapped
operation. -/
abbrev State.WrapperOutstanding (s : State) : Prop :=
  s.rActive = true →
    s.active = true ∧ s.cfg.hasRetry = true ∧ s.state = s.rOp.waitingState ∧ s.rOp.contractHolds = true ∧
      s.rOp.wellFormed s.cfg = true

/-- R1: without a controller nothing is ever connected. -/
abbrev State.AbsentController (s : State) : Prop := s.cfg.hasController = false → s.state = .idle

/-- The invariant of the block. -/
abbrev State.Inv (s : State) : Prop :=
  s.cfg.Valid ∧ s.ActiveIsWaiting ∧ s.TimerArmed ∧ s.CounterFollows ∧ s.UploadBounded ∧ s.WrapperOutstanding ∧
    s.AbsentController

/-- The CRC lanes of two states agree (R11). -/
abbrev State.SameLanes (s t : State) : Prop := t.crc0 = s.crc0 ∧ t.crc1 = s.crc1

/-- The controller's registers of two states agree (R10, the controller's rows). -/
abbrev State.SameController (s t : State) : Prop :=
  t.state = s.state ∧ t.active = s.active ∧ t.sendCtr = s.sendCtr ∧ t.lastCtr = s.lastCtr ∧ t.timer = s.timer ∧
    t.upN = s.upN ∧ t.upBuf = s.upBuf

/-- The arbiter's registers of two states agree (R10, the arbiter's rows). -/
abbrev State.SameArbiter (s t : State) : Prop :=
  t.rActive = s.rActive ∧ t.rOp = s.rOp ∧ t.rLeft = s.rLeft ∧ t.rAccept = s.rAccept

/-- What is no register of the block agrees: the configuration, the events still to come, the free-value counter. -/
abbrev State.SameSurroundings (s t : State) : Prop :=
  t.cfg = s.cfg ∧ t.events = s.events ∧ t.freeIdx = s.freeIdx

/-- `n` steps of the block, through the host's interface. -/
def steps (n : Nat) (s : State) : Host.Outcome State Fault Refusal := Sys2Proof.core.run n s

/-- The first event of the sequence is not a RESET. -/
abbrev State.NotReset (s : State) : Prop := s.events.head? ≠ some .reset

end Sys2Proof.Machine
end

