-- ==== Sys2Proof/Certificates/Slice0/Obligations.lean ====
section
/-!
DEFINITION. The statements for the provers. Each docstring names the rule of spec/ that the statement rests on. A record
update on the right of an equation says the whole frame: every field it does not name is unchanged, the CRC lanes, the
controller's and the arbiter's registers, the configuration and the events still to come among them. The block has no
memory (R40), so there is no byte of memory to frame.
-/

open Sys2Proof Sys2Proof.Machine

/-! ### Vocabulary of the statements -/

/-- R141 spelled out: the state after an accepted operation with command code `c`, waiting state `w` and the six bytes
`window` of the frame after code and counter. -/
def Sys2Proof.Machine.State.afterIssue (s : State) (c : CommandCode) (w : HandlerState) (window : List Byte) : State :=
  { s with
    state := w
    active := true
    lastCtr := s.sendCtr
    sendCtr := s.sendCtr + 1
    timer := s.cfg.timeout.get c
    out :=
      { respond := some .accepted
        tx := some { id := s.cfg.idHost, ext := true, data := s.cfg.code.get c :: s.sendCtr :: window } } }

/-- A synchronous refusal: the response, and nothing else (R140, R226). -/
def Sys2Proof.Machine.State.afterRefusal (s : State) (e : Err) : State :=
  { s with out := { respond := some (.err e) } }

/-- A response, and nothing else. -/
def Sys2Proof.Machine.State.afterResponse (s : State) (v : Response) : State := { s with out := { respond := some v } }

/-- R176 spelled out, with no retry wrapper in progress. -/
def Sys2Proof.Machine.State.afterFailure (s : State) (e : Err) : State :=
  { s with
    state := if s.state = .connecting then .idle else .connected
    active := false
    timer := 0
    out := { resolve := some (.err e) } }

/-- R173 spelled out; a retry wrapper in progress ends (R192). -/
def Sys2Proof.Machine.State.afterAck (s : State) (bytes : List Byte) : State :=
  { s with
    state := if s.state = .disconnecting then .idle else .connected
    active := false
    timer := 0
    rActive := s.rActive && !s.cfg.hasRetry
    out := { resolve := some (.ok bytes) } }

/-- A violation: the error on its port, and nothing else (R175). -/
def Sys2Proof.Machine.State.afterViolation (s : State) (e : Err) : State :=
  { s with out := { violation := some e } }

/-- R170's seven tests in their order: the error of the first that the frame fails. -/
def Sys2Proof.Machine.rxTests (s : State) (f : Frame) : Option Err :=
  if f.data.length ≠ 8 then some .messageLength
  else if f.ext = false then some .identifierType
  else if f.id ≠ s.cfg.idReply then some (.unexpectedMessage .wrongIdentifier)
  else if f.data[0]? ≠ some 0xFF#8 then some (.unexpectedMessage .notAReply)
  else if s.active = false then some (.unexpectedMessage .noOutstanding)
  else if ¬(s.state = .connecting ∨ f.data[2]? = some s.lastCtr) then some (.unexpectedMessage .wrongCounter)
  else if f.data[1]? ≠ some (s.cfg.status.get .acknowledge) then
    some (.unexpectedMessage (.nonAcknowledge (f.data.getD 1 0) (lookupStatus s.cfg (f.data.getD 1 0))
      (categoryOf s.cfg (f.data.getD 1 0)) (faultOf s.cfg (f.data.getD 1 0))))
  else none

/-- A reply frame with the reply identifier that passes the counter and status tests (R171, R172). -/
abbrev Sys2Proof.Machine.State.MatchingAck (s : State) (status ctr : Byte) : Prop :=
  s.cfg.hasController = true ∧ s.active = true ∧ status = s.cfg.status.get .acknowledge ∧
    (s.state = .connecting ∨ ctr = s.lastCtr)

/-- What a command frame does when it arrives with no retry wrapper in progress: it is never the matching reply (R170
tests 2 to 4), so it fails the outstanding transaction (R176) or is a violation (R175). -/
def Sys2Proof.Machine.CommandFrameRejected (row : CanId → Bool → Instr) : Prop :=
  ∀ (s : State) (id : CanId) (ext : Bool), s.cfg.hasController = true → 0xFF#8 ∉ s.cfg.codes → s.rActive = false →
    exec (row id ext) s =
      .next (
        let e : Err :=
          if ext = false then .identifierType
          else if id ≠ s.cfg.idReply then .unexpectedMessage .wrongIdentifier
          else .unexpectedMessage .notAReply
        if s.active = true then s.afterFailure e else s.afterViolation e)

/-- The table row that an operation's command frame is, with the contents of its fields (R69 to R77). -/
def Sys2Proof.Machine.transmittedRow (c : Config) (ctr : Byte) : CtrlOp → Instr
  | .connect station => .wireConnect c.idHost true ctr station 0
  | .disconnect => .wireDisconnect c.idHost true ctr 0
  | .setMta e a => .wireSetMta c.idHost true ctr 0 (c.extByte e) a
  | .unlock p => .wireUnlock c.idHost true ctr 2 (c.passwordValue p) 0
  | .download d =>
    .wireDownload c.idHost true ctr (BitVec.ofNat 8 d.length)
      (ofBytes 40 (swapPairs d ++ List.replicate (5 - d.length) 0))
  | .download6 d => .wireDownload6 c.idHost true ctr (ofBytes 48 (swapPairs d))
  | .upload n _ => .wireUpload c.idHost true ctr n 0
  | .buildChecksum k len => .wireBuildChecksum c.idHost true ctr len k
  | .clearMemory => .wireClearMemory c.idHost true ctr 0x000000FF 0

/-- The mask that selects one lane. -/
def Sys2Proof.Machine.laneMask : Lane → BitVec 2
  | .zero => 1
  | .one => 2

/-- The other lane. -/
def Sys2Proof.Machine.otherLane : Lane → Lane
  | .zero => .one
  | .one => .zero

/-- The operation that starts a checksum: a seed, or a load of a value read earlier (R108). -/
def Sys2Proof.Machine.startCrc (lane : Lane) : Option Half → Instr
  | none => .crcSeed (laneMask lane)
  | some r => .crcLoad lane r

/-- The four operations of the CRC unit. -/
def Sys2Proof.Machine.isCrcOperation : Instr → Bool
  | .crcSeed _ => true
  | .crcLoad _ _ => true
  | .crcUpdate _ _ => true
  | .crcRead _ => true
  | _ => false

/-- A full acknowledge reply with the counter of the outstanding command. -/
def Sys2Proof.Machine.State.ackEvent (s : State) (payload : BitVec 40) : Event :=
  .rx (wireReplyFrame s.cfg.idReply true (s.cfg.status.get .acknowledge) s.lastCtr payload)

/-! ### Decoding, encoding and the step -/

/-- Decoding the event that presents an instruction gives that instruction, for every instruction and every value of
its operands (30_encoding.md R62, R63, R69 to R78, R90). -/
def Obligations.EncodedInstructionDecodesToItself : Prop :=
  ∀ (c : Config) (i : Instr), c.Valid → decode c (encode c i) = .ok i

/-- Every event that decodes is the encoding of what it decodes to, under every configuration: no bit of a frame and no
operand is dropped (30_encoding.md R62, R63, R69 to R78, R90). -/
def Obligations.DecodedEventIsItsEncoding : Prop :=
  ∀ (c : Config) (e : Event) (i : Instr), decode c e = .ok i → encode c i = e

/-- Words written out from the spec's encodings decode to the instructions they stand for, under TESTCFG: the command
words of 95_test_vectors.md sections 3 and 4, a reply laid out by R63, and selectors of R90's table (30_encoding.md
section 6), 0x29 being none of them. Three things are the model's: the identifiers of bare words and the reading of a
wire row as a frame at the RX port (notes/assumptions/5.md), and the zero operands that a bare selector word is given,
here those of `CRC_UPDATE` (notes/assumptions/4.md). -/
def Obligations.SpecWordsDecode : Prop :=
  decodeTableWord 64 0x012A050000000000 = some (.wireConnect 0x18FF0001 true 0x2A 0x05 0) ∧
  decodeTableWord 64 0x0207000300012000 = some (.wireSetMta 0x18FF0001 true 7 0 3 0x00012000) ∧
  decodeTableWord 64 0x0E07000000101522 = some (.wireBuildChecksum 0x18FF0001 true 7 16 0x1522) ∧
  decodeTableWord 64 0xFF3307A0A1A2A3A4 = some (.wireReply 0x18FF0002 true 0x33 7 0xA0A1A2A3A4) ∧
  decodeTableWord 8 0x02 = some (.crcUpdate 0 0) ∧
  decodeTableWord 8 0x28 = some .clearMemory ∧
  decodeTableWord 8 0x2F = some .cancel ∧
  decodeTableWord 8 0x29 = none

/-- R90: the selector and operands of each of the 18 operations, and "A selector value not in the table selects no
operation; the block refuses it with no change of state."
Nothing is output either (U8). Typed operands and the event sequence are the model's (notes/assumptions/4.md, 1.md). -/
def Obligations.OperationPortSelectsByOpsel : Prop :=
  (∀ m, decodeOp 0x00 [.mask m] = .ok (.crcSeed m)) ∧
  (∀ v, decodeOp 0x01 [.lane 0, .half v] = .ok (.crcLoad .zero v) ∧
    decodeOp 0x01 [.lane 1, .half v] = .ok (.crcLoad .one v)) ∧
  (∀ m b, decodeOp 0x02 [.mask m, .byte b] = .ok (.crcUpdate m b)) ∧
  (decodeOp 0x03 [.lane 0] = .ok (.crcRead .zero) ∧ decodeOp 0x03 [.lane 1] = .ok (.crcRead .one)) ∧
  (∀ code ctr p, decodeOp 0x10 [.code code, .byte ctr, .bytes p] = .ok (.encodeCommand code ctr p)) ∧
  (∀ st ctr p, decodeOp 0x11 [.byte st, .byte ctr, .bytes p] = .ok (.encodeReply st ctr p)) ∧
  (∀ f, decodeOp 0x12 [.frame f] = .ok (.decodeFrame f)) ∧
  (∀ st, decodeOp 0x20 [.byte st] = .ok (.connect st)) ∧
  decodeOp 0x21 [] = .ok .disconnect ∧
  (∀ e a, decodeOp 0x22 [.extension e, .word a] = .ok (.setMta e a)) ∧
  (∀ p, decodeOp 0x23 [.password p] = .ok (.unlock p)) ∧
  (∀ d, decodeOp 0x24 [.bytes d] = .ok (.download d)) ∧
  (∀ d, decodeOp 0x25 [.bytes d] = .ok (.download6 d)) ∧
  (∀ n block, decodeOp 0x26 [.byte n, .flag block] = .ok (.upload n block)) ∧
  (∀ k len, decodeOp 0x27 [.half k, .word len] = .ok (.buildChecksum k len)) ∧
  decodeOp 0x28 [] = .ok .clearMemory ∧
  decodeOp 0x2F [] = .ok .cancel ∧
  (∀ op times acc, decodeOp 0x30 [.operation op, .byte times, .kinds acc] = .ok (.retry op times acc)) ∧
  (∀ (s : State) (sel : Byte) (args : List Operand) (rest : List Event), s.events = .op sel args :: rest →
    sel.toNat ∉ [0x00, 0x01, 0x02, 0x03, 0x10, 0x11, 0x12, 0x20, 0x21, 0x22, 0x23, 0x24, 0x25, 0x26, 0x27, 0x28, 0x2F,
      0x30] →
    step s = .next { s with events := rest, out := {} })

/-- R110: `CRC_LOAD` or `CRC_READ` with a lane other than 0 or 1 is refused with no change of state.
Nothing is output either (U8). The event sequence is the model's (notes/assumptions/1.md). -/
def Obligations.AbsentLaneChangesNothing : Prop :=
  ∀ (s : State) (n : Nat) (v : Half) (rest : List Event), 2 ≤ n →
    (s.events = .op 0x01 [.lane n, .half v] :: rest → step s = .next { s with events := rest, out := {} }) ∧
    (s.events = .op 0x03 [.lane n] :: rest → step s = .next { s with events := rest, out := {} })

/-- A step whose event decodes runs that instruction, after the event is taken from the sequence (R50, R182;
the sequence is the model's, notes/assumptions/1.md). -/
def Obligations.StepRunsDecodedInstruction : Prop :=
  ∀ (s : State) (e : Event) (rest : List Event) (i : Instr), s.events = e :: rest → decode s.cfg e = .ok i →
    step s = exec i { s with events := rest }

/-- No instruction and no event stops the block: "after the step the block is ready for the next event" (R226). -/
def Obligations.NoInstructionStopsTheBlock : Prop :=
  (∀ (i : Instr) (s : State), ∃ t, exec i s = .next t) ∧ (∀ s : State, ∃ t, step s = .next t)

/-- A unit that is not present has no operations: without a controller the RX port, the controller operations and
`CANCEL` do nothing, without an arbiter `RETRY` does nothing (R1 and the opening lines of 42, 43 and 44); an operand
that is no Password member selects nothing either (notes/assumptions/6.md). -/
def Obligations.AbsentUnitsDoNothing : Prop :=
  ∀ (s : State) (i : Instr), i.wellFormed s.cfg = false → exec i s = .next { s with out := {} }

/-! ### The CRC unit (40_crc.md) -/

/-- R104: the selected lanes are seeded; every other register keeps its value. -/
def Obligations.CrcSeedSeedsSelectedLanes : Prop :=
  ∀ (mask : BitVec 2) (s : State),
    ∃ o : Outputs, exec (.crcSeed mask) s =
      .next { s with
        crc0 := if mask.getLsbD 0 then 0xFFFF#16 else s.crc0
        crc1 := if mask.getLsbD 1 then 0xFFFF#16 else s.crc1
        out := o }

/-- R105: the lane takes the value; every other register keeps its value. -/
def Obligations.CrcLoadWritesItsLane : Prop :=
  ∀ (v : Half) (s : State),
    (∃ o : Outputs, exec (.crcLoad .zero v) s = .next { s with crc0 := v, out := o }) ∧
    (∃ o : Outputs, exec (.crcLoad .one v) s = .next { s with crc1 := v, out := o })

/-- R106: the selected lanes take one step with the byte; every other register keeps its value. -/
def Obligations.CrcUpdateStepsSelectedLanes : Prop :=
  ∀ (mask : BitVec 2) (b : Byte) (s : State),
    ∃ o : Outputs, exec (.crcUpdate mask b) s =
      .next { s with
        crc0 := if mask.getLsbD 0 then crcStep s.crc0 b else s.crc0
        crc1 := if mask.getLsbD 1 then crcStep s.crc1 b else s.crc1
        out := o }

/-- The three operations that write a lane output nothing, no `Respond` either: the model's reading of 00_scope.md
section 6 (notes/assumptions/9.md). -/
def Obligations.LaneWritesOutputNothing : Prop :=
  ∀ (i : Instr) (s t : State), isCrcOperation i = true → (∀ lane, i ≠ .crcRead lane) → exec i s = .next t →
    t.out = {}

/-- R107. -/
def Obligations.CrcReadRespondsItsLane : Prop :=
  ∀ s : State,
    exec (.crcRead .zero) s = .next (s.afterResponse (.value s.crc0)) ∧
    exec (.crcRead .one) s = .next (s.afterResponse (.value s.crc1))

/-- R101 and R102: the eight iterations on the exclusive-or of the value and the byte, and the fold over a string from
the seed or from the running value. -/
def Obligations.CrcStepIsEightIterations : Prop :=
  (∀ (c : Half) (b : Byte),
    crcStep c b =
      (fun x : Half => if x.toNat % 2 = 1 then (x >>> 1) ^^^ 0xA001#16 else x >>> 1)^[8] (c ^^^ b.setWidth 16)) ∧
  (∀ r : Half, crc16 [] (some r) = r) ∧ crc16 [] none = 0xFFFF#16 ∧
  (∀ (s : List Byte) (b : Byte) (r : Option Half), crc16 (s ++ [b]) r = crcStep (crc16 s r) b)

/-- R103, its five laws. -/
def Obligations.CrcLawsHold : Prop :=
  ((∀ r : Half, crc16 [] (some r) = r) ∧ crc16 [] none = 0xFFFF#16) ∧
  (∀ s : List Byte, crc16 s none = crc16 s (some 0xFFFF#16)) ∧
  (∀ (s t : List Byte) (r : Option Half), crc16 (s ++ t) r = crc16 t (some (crc16 s r))) ∧
  ((∀ (c c' : Half) (b b' : Byte), crcStep (c ^^^ c') (b ^^^ b') = crcStep c b ^^^ crcStep c' b') ∧
    crcStep 0 0 = 0) ∧
  ((∀ (c : Half) (b : Byte),
      crcStep c b = (c >>> 8) ^^^ crcShifts 8 ((c ^^^ b.setWidth 16) &&& 0x00FF#16)) ∧
    crcShifts 8 0x0000#16 = 0x0000#16 ∧ crcShifts 8 0x0001#16 = 0xC0C1#16 ∧ crcShifts 8 0x0002#16 = 0xC181#16 ∧
    crcShifts 8 0x0080#16 = 0xA001#16 ∧ crcShifts 8 0x00FF#16 = 0x4040#16)

/-- R108: a seed (or a load), one update per byte, and a read compute `crc16` on one lane and leave the other lane, the
controller and the arbiter alone. Stated of the machine's own steps.
The event sequence is the model's (notes/assumptions/1.md). -/
def Obligations.CrcOperationsComputeCrc16 : Prop :=
  ∀ (s : State) (lane : Lane) (bytes : List Byte) (r : Option Half) (rest : List Event),
    s.events =
      (startCrc lane r :: (bytes.map (Instr.crcUpdate (laneMask lane)) ++ [Instr.crcRead lane])).map (encode s.cfg) ++
        rest →
    ∃ t : State, steps (bytes.length + 2) s = .next t ∧ t.out = { respond := some (.value (crc16 bytes r)) } ∧
      t.lane lane = crc16 bytes r ∧ t.lane (otherLane lane) = s.lane (otherLane lane) ∧ s.SameController t ∧
      s.SameArbiter t ∧ t.cfg = s.cfg ∧ t.events = rest

/-- Nothing but a CRC operation or a RESET reads or writes a lane: the step of any other event does the same to the
rest of the state whatever the lanes hold, and leaves them (R1, R11).
The event sequence is the model's (notes/assumptions/1.md). -/
def Obligations.LanesAreIndependentOfTheRest : Prop :=
  ∀ (s : State) (e : Event) (rest : List Event), s.events = e :: rest → e ≠ .reset →
    (∀ i, decode s.cfg e = .ok i → isCrcOperation i = false) →
    ∃ t : State, step s = .next t ∧
      ∀ a b : Half, step { s with crc0 := a, crc1 := b } = .next { t with crc0 := a, crc1 := b }

/-! ### The codec (41_codec.md) -/

/-- R121: the frame of R64, or `PayloadLengthError` over six bytes; no register changes. -/
def Obligations.EncodeCommandBuildsFrame : Prop :=
  ∀ (code : CommandCode) (ctr : Byte) (p : List Byte) (s : State),
    (p.length ≤ 6 →
      exec (.encodeCommand code ctr p) s =
        .next (s.afterResponse (.frame
          { id := s.cfg.idHost, ext := true,
            data := [s.cfg.code.get code, ctr] ++ p ++ List.replicate (6 - p.length) 0x00#8 }))) ∧
    (6 < p.length → exec (.encodeCommand code ctr p) s = .next (s.afterRefusal .payloadLength))

/-- R125: the frame of R66, or `PayloadLengthError` over five bytes; no register changes. -/
def Obligations.EncodeReplyBuildsFrame : Prop :=
  ∀ (status ctr : Byte) (p : List Byte) (s : State),
    (p.length ≤ 5 →
      exec (.encodeReply status ctr p) s =
        .next (s.afterResponse (.frame
          { id := s.cfg.idReply, ext := true,
            data := [0xFF#8, status, ctr] ++ p ++ List.replicate (5 - p.length) 0x00#8 }))) ∧
    (5 < p.length → exec (.encodeReply status ctr p) s = .next (s.afterRefusal .payloadLength))

/-- R124: the two errors in their order, the classification by the first byte alone, the slices, and the members that
`lookup_code` and `lookup_status` give. -/
def Obligations.DecodeClassifiesByFirstByte : Prop :=
  (∀ (f : Frame) (s : State), f.data.length ≠ 8 →
    exec (.decodeFrame f) s = .next (s.afterRefusal .messageLength)) ∧
  (∀ (f : Frame) (s : State), f.data.length = 8 → f.ext = false →
    exec (.decodeFrame f) s = .next (s.afterRefusal .identifierType)) ∧
  (∀ (id : CanId) (d1 d2 d3 d4 d5 d6 d7 : Byte) (s : State),
    exec (.decodeFrame { id := id, ext := true, data := [0xFF#8, d1, d2, d3, d4, d5, d6, d7] }) s =
      .next (s.afterResponse (.packet (.reply d1 (lookupStatus s.cfg d1) d2 [d3, d4, d5, d6, d7])))) ∧
  (∀ (id : CanId) (d0 d1 d2 d3 d4 d5 d6 d7 : Byte) (s : State), d0 ≠ 0xFF#8 →
    exec (.decodeFrame { id := id, ext := true, data := [d0, d1, d2, d3, d4, d5, d6, d7] }) s =
      .next (s.afterResponse (.packet (.command d0 (lookupCode s.cfg d0) d1 [d2, d3, d4, d5, d6, d7])))) ∧
  (∀ (c : Config) (x : Byte), c.Valid →
    (∀ m, lookupCode c x = some m ↔ c.code.get m = x) ∧ (∀ m, lookupStatus c x = some m ↔ c.status.get m = x))

/-- R128, its four laws: what is encoded decodes to its fields with the padded payload, a valid frame's fields encode
to the frame again, and a one-byte payload comes back as six bytes. -/
def Obligations.CodecRoundTrips : Prop :=
  ∀ s : State, s.cfg.Valid →
    (∀ (code : CommandCode) (n : Byte) (p : List Byte), p.length ≤ 6 →
      ∃ f : Frame, exec (.encodeCommand code n p) s = .next (s.afterResponse (.frame f)) ∧
        exec (.decodeFrame f) s =
          .next (s.afterResponse
            (.packet (.command (s.cfg.code.get code) (some code) n (p ++ List.replicate (6 - p.length) 0))))) ∧
    (∀ (st n : Byte) (p : List Byte), p.length ≤ 5 →
      ∃ f : Frame, exec (.encodeReply st n p) s = .next (s.afterResponse (.frame f)) ∧
        exec (.decodeFrame f) s =
          .next (s.afterResponse
            (.packet (.reply st (lookupStatus s.cfg st) n (p ++ List.replicate (5 - p.length) 0))))) ∧
    (∀ (f : Frame) (d code n : Byte) (m : CommandCode) (p : List Byte), f.id = s.cfg.idHost → f.ext = true →
      f.data.length = 8 → f.data[0]? = some d → d ≠ 0xFF →
      exec (.decodeFrame f) s = .next (s.afterResponse (.packet (.command code (some m) n p))) →
      exec (.encodeCommand m n p) s = .next (s.afterResponse (.frame f))) ∧
    (∀ (f : Frame) (st n : Byte) (m : Option CommandStatus) (p : List Byte), f.id = s.cfg.idReply → f.ext = true →
      f.data.length = 8 → f.data[0]? = some 0xFF →
      exec (.decodeFrame f) s = .next (s.afterResponse (.packet (.reply st m n p))) →
      exec (.encodeReply st n p) s = .next (s.afterResponse (.frame f))) ∧
    (∀ (code : CommandCode) (n b : Byte), ∃ (f : Frame) (q : List Byte),
      exec (.encodeCommand code n [b]) s = .next (s.afterResponse (.frame f)) ∧
        exec (.decodeFrame f) s =
          .next (s.afterResponse (.packet (.command (s.cfg.code.get code) (some code) n q))) ∧ q.length = 6)

/-- `swap_pairs` (00_scope.md section 5, R44): every pair of bytes of an even-length string is exchanged. -/
def Obligations.SwapPairsExchangesPairs : Prop :=
  ∀ d : List Byte, d.length % 2 = 0 →
    (swapPairs d).length = d.length ∧
    ∀ k, 2 * k + 1 < d.length → (swapPairs d)[2 * k]? = d[2 * k + 1]? ∧ (swapPairs d)[2 * k + 1]? = d[2 * k]?

/-! ### Controller operations (42_controller_ops.md) -/

/-- R140: busy, then state, then length; a refused operation transmits nothing and changes no register. -/
def Obligations.OperationsAreTestedInOrder : Prop :=
  (∀ (op : CtrlOp) (s : State), s.cfg.hasController = true → op.wellFormed s.cfg = true →
    (s.active = true → exec op.toInstr s = .next (s.afterRefusal .handlerBusy)) ∧
    (s.active = false → s.state ≠ op.allowedFrom → exec op.toInstr s = .next (s.afterRefusal .stateViolation)) ∧
    (s.active = false → s.state = op.allowedFrom → op.contractHolds = false →
      exec op.toInstr s = .next (s.afterRefusal .payloadLength))) ∧
  (∀ st, (CtrlOp.connect st).allowedFrom = .idle) ∧
  (∀ op : CtrlOp, (∀ st, op ≠ .connect st) → op.allowedFrom = .connected)

/-- R142, accepted. -/
def Obligations.ConnectIssuesItsCommand : Prop :=
  ∀ (station : Byte) (s : State), s.cfg.hasController = true → s.active = false → s.state = .idle →
    exec (.connect station) s = .next (s.afterIssue .connect .connecting [station, 0, 0, 0, 0, 0])

/-- R143, accepted. -/
def Obligations.DisconnectIssuesItsCommand : Prop :=
  ∀ s : State, s.cfg.hasController = true → s.active = false → s.state = .connected →
    exec .disconnect s = .next (s.afterIssue .disconnect .disconnecting [0, 0, 0, 0, 0, 0])

/-- R144, accepted: the extension byte, then the address, most significant byte first. -/
def Obligations.SetMtaIssuesItsCommand : Prop :=
  ∀ (e : AddressExtension) (a : Word32) (s : State), s.cfg.hasController = true → s.active = false →
    s.state = .connected →
    exec (.setMta e a) s =
      .next (s.afterIssue .setMta .settingMta
        [0x00, s.cfg.extByte e, a.extractLsb' 24 8, a.extractLsb' 16 8, a.extractLsb' 8 8, a.extractLsb' 0 8])

/-- R145, accepted, for every member of Password. -/
def Obligations.UnlockIssuesItsCommand : Prop :=
  ∀ (p : Password) (w : Half) (s : State), s.cfg.hasController = true → s.active = false → s.state = .connected →
    (p = .dspFlash ∧ w = s.cfg.passwordDspFlash ∨ ∃ k, p = .other k ∧ s.cfg.passwordOthers[k]? = some w) →
    exec (.unlock p) s =
      .next (s.afterIssue .unlock .unlocking [0x02, w.extractLsb' 8 8, w.extractLsb' 0 8, 0, 0, 0])

/-- R146: the three admitted lengths with the data pair-swapped, and the refusal of every other length. -/
def Obligations.DownloadIssuesItsCommand : Prop :=
  ∀ s : State, s.cfg.hasController = true → s.active = false → s.state = .connected →
    exec (.download []) s = .next (s.afterIssue .download .downloading [0, 0, 0, 0, 0, 0]) ∧
    (∀ a b, exec (.download [a, b]) s = .next (s.afterIssue .download .downloading [2, b, a, 0, 0, 0])) ∧
    (∀ a b c d, exec (.download [a, b, c, d]) s =
      .next (s.afterIssue .download .downloading [4, b, a, d, c, 0])) ∧
    (∀ d : List Byte, 5 < d.length ∨ d.length % 2 = 1 →
      exec (.download d) s = .next (s.afterRefusal .payloadLength))

/-- R147: six bytes, pair-swapped, and the refusal of every other length. -/
def Obligations.Download6IssuesItsCommand : Prop :=
  ∀ s : State, s.cfg.hasController = true → s.active = false → s.state = .connected →
    (∀ a b c d e f, exec (.download6 [a, b, c, d, e, f]) s =
      .next (s.afterIssue .download6 .download6ing [b, a, d, c, f, e])) ∧
    (∀ d : List Byte, d.length ≠ 6 → exec (.download6 d) s = .next (s.afterRefusal .payloadLength))

/-- R148: the count and an empty buffer are latched; more than five bytes need `block`. -/
def Obligations.UploadIssuesItsCommand : Prop :=
  ∀ (n : Byte) (block : Bool) (s : State), s.cfg.hasController = true → s.active = false → s.state = .connected →
    (block = true ∨ n.toNat ≤ 5 →
      exec (.upload n block) s =
        .next { s.afterIssue .upload .uploading [n, 0, 0, 0, 0, 0] with upN := n, upBuf := [] }) ∧
    (block = false ∧ 5 < n.toNat → exec (.upload n block) s = .next (s.afterRefusal .payloadLength))

/-- R149, accepted: the length, then the checksum, each most significant byte first. -/
def Obligations.BuildChecksumIssuesItsCommand : Prop :=
  ∀ (k : Half) (len : Word32) (s : State), s.cfg.hasController = true → s.active = false → s.state = .connected →
    exec (.buildChecksum k len) s =
      .next (s.afterIssue .buildChecksum .buildingChecksum
        [len.extractLsb' 24 8, len.extractLsb' 16 8, len.extractLsb' 8 8, len.extractLsb' 0 8, k.extractLsb' 8 8,
          k.extractLsb' 0 8])

/-- R150, accepted. -/
def Obligations.ClearMemoryIssuesItsCommand : Prop :=
  ∀ s : State, s.cfg.hasController = true → s.active = false → s.state = .connected →
    exec .clearMemory s = .next (s.afterIssue .clearMemory .clearingMemory [0x00, 0x00, 0x00, 0xFF, 0, 0])

/-- Every frame that a controller operation transmits is its row of the opcode table (R69 to R77). -/
def Obligations.TransmittedFramesAreTableRows : Prop :=
  ∀ (op : CtrlOp) (s t : State) (f : Frame), s.cfg.Valid → exec op.toInstr s = .next t → t.out.tx = some f →
    decodeWire s.cfg f = .ok (transmittedRow s.cfg s.sendCtr op)

/-- R180 and R194: `CANCEL` ends the outstanding transaction, abandons a retry wrapper, and its result is never
retried; with nothing outstanding it only responds. -/
def Obligations.CancelEndsTheTransaction : Prop :=
  ∀ s : State, s.cfg.hasController = true →
    (s.active = true →
      exec .cancel s =
        .next { s with
          state := if s.state = .connecting then .idle else .connected
          active := false
          timer := 0
          rActive := s.rActive && !s.cfg.hasRetry
          out := { respond := some .accepted, resolve := some (.err .cancelled) } }) ∧
    (s.active = false →
      exec .cancel s =
        .next { s with rActive := s.rActive && !s.cfg.hasRetry, out := { respond := some .accepted } })

/-! ### Inbound frames and the timer (43_controller_events.md) -/

/-- The ten command rows of the table at the RX port: the whole effect the spec gives a command frame that arrives
(R170 tests 2 to 4, R175, R176). The row as a frame at the RX port is the model's (notes/assumptions/5.md). -/
def Obligations.CommandFramesAreRejected : Prop :=
  (∀ ctr station pad, CommandFrameRejected fun id ext => .wireConnect id ext ctr station pad) ∧
  (∀ ctr reserved extension address,
    CommandFrameRejected fun id ext => .wireSetMta id ext ctr reserved extension address) ∧
  (∀ ctr length data, CommandFrameRejected fun id ext => .wireDownload id ext ctr length data) ∧
  (∀ ctr count pad, CommandFrameRejected fun id ext => .wireUpload id ext ctr count pad) ∧
  (∀ ctr pad, CommandFrameRejected fun id ext => .wireDisconnect id ext ctr pad) ∧
  (∀ ctr length checksum, CommandFrameRejected fun id ext => .wireBuildChecksum id ext ctr length checksum) ∧
  (∀ ctr length pad, CommandFrameRejected fun id ext => .wireClearMemory id ext ctr length pad) ∧
  (∀ ctr lead password pad, CommandFrameRejected fun id ext => .wireUnlock id ext ctr lead password pad) ∧
  (∀ ctr payload, CommandFrameRejected fun id ext => .wireActionService id ext ctr payload) ∧
  (∀ ctr data, CommandFrameRejected fun id ext => .wireDownload6 id ext ctr data)

/-- R173: the matching acknowledge reply in any waiting state other than `uploading`. -/
def Obligations.AcknowledgeReplyCompletes : Prop :=
  ∀ (s : State) (status ctr : Byte) (payload : BitVec 40), s.MatchingAck status ctr → s.state ≠ .uploading →
    exec (.wireReply s.cfg.idReply true status ctr payload) s = .next (s.afterAck [])

/-- R174: the matching acknowledge reply while `uploading`. -/
def Obligations.UploadReplyAccumulates : Prop :=
  ∀ (s : State) (status ctr : Byte) (payload : BitVec 40) (buf : List Byte), s.MatchingAck status ctr →
    s.state = .uploading →
    buf = s.upBuf ++ (be40 payload).take (min 5 (s.upN.toNat - s.upBuf.length)) →
    exec (.wireReply s.cfg.idReply true status ctr payload) s =
      .next (
        if buf.length = s.upN.toNat then { s.afterAck buf with upBuf := buf }
        else { s with upBuf := buf, timer := s.cfg.timeout.get .upload, out := {} })

/-- R170 to R176: every inbound frame, with no retry wrapper in progress. The first of the seven tests that it fails
gives the error, which fails the outstanding transaction or is a violation; a frame that fails none acknowledges.
The event sequence is the model's (notes/assumptions/1.md). -/
def Obligations.InboundFramesTakeTheSevenTests : Prop :=
  ∀ (s : State) (f : Frame) (rest : List Event), s.cfg.hasController = true → s.rActive = false →
    s.events = .rx f :: rest →
    (∀ e, rxTests s f = some e → s.active = true → step s = .next { s.afterFailure e with events := rest }) ∧
    (∀ e, rxTests s f = some e → s.active = false → step s = .next { s.afterViolation e with events := rest }) ∧
    (rxTests s f = none → s.state ≠ .uploading → step s = .next { s.afterAck [] with events := rest }) ∧
    (∀ buf, rxTests s f = none → s.state = .uploading →
      buf = s.upBuf ++ (f.data.drop 3).take (min 5 (s.upN.toNat - s.upBuf.length)) →
      step s =
        .next (
          if buf.length = s.upN.toNat then { s.afterAck buf with upBuf := buf, events := rest }
          else { s with upBuf := buf, timer := s.cfg.timeout.get .upload, out := {}, events := rest }))

/-- R174, R279: an upload of `n` bytes is completed by exactly `ceil(n / 5)` acknowledge replies (one when `n` is 0),
delivers the first `n` bytes of their payloads in order, and outputs nothing before the last.
The event sequence is the model's (notes/assumptions/1.md). -/
def Obligations.UploadTakesCeilingOfRepliesToComplete : Prop :=
  ∀ (s : State) (payloads : List (BitVec 40)) (rest : List Event), s.cfg.hasController = true → s.active = true →
    s.state = .uploading → s.upBuf = [] → payloads.length = max 1 ((s.upN.toNat + 4) / 5) →
    s.events = payloads.map s.ackEvent ++ rest →
    steps payloads.length s =
      .next { s.afterAck ((payloads.flatMap be40).take s.upN.toNat) with
        upBuf := (payloads.flatMap be40).take s.upN.toNat, events := rest } ∧
    ∀ j, 0 < j → j < payloads.length →
      ∃ t : State, steps j s = .next t ∧ t.state = .uploading ∧ t.active = true ∧ t.out = {} ∧
        t.upBuf = (payloads.take j).flatMap be40

/-- R178 and R179: one tick.
The event sequence is the model's (notes/assumptions/1.md). -/
def Obligations.TickCountsDownAndExpires : Prop :=
  ∀ (s : State) (rest : List Event), s.cfg.hasController = true → s.events = .tick :: rest →
    (s.active = true → 1 < s.timer → step s = .next { s with timer := s.timer - 1, events := rest, out := {} }) ∧
    (s.active = true → s.timer = 1 → s.rActive = false →
      step s = .next { s.afterFailure .requestTimeout with events := rest }) ∧
    (s.active = false → step s = .next { s with events := rest, out := {} })

/-- R178: with ticks alone, the timeout fires in the `timer`-th tick and not before.
The event sequence is the model's (notes/assumptions/1.md). -/
def Obligations.TimeoutFiresInItsLastTick : Prop :=
  ∀ (s : State) (rest : List Event), s.cfg.hasController = true → s.active = true → s.rActive = false →
    1 ≤ s.timer → s.events = List.replicate s.timer .tick ++ rest →
    steps s.timer s = .next { s.afterFailure .requestTimeout with events := rest } ∧
    ∀ k, 0 < k → k < s.timer →
      steps k s = .next { s with
        timer := s.timer - k, events := List.replicate (s.timer - k) .tick ++ rest, out := {} }

/-! ### Errors and categories (60_exceptions.md) -/

/-- R228: the category and the fault signal of a status byte. -/
def Obligations.StatusBytesHaveCategories : Prop :=
  ∀ (c : Config) (b : Byte), c.Valid →
    (∀ m, c.status.get m = b → categoryOf c b = .known (c.category.get m)) ∧
    ((∀ m, c.status.get m ≠ b) → categoryOf c b = .unknown) ∧
    (faultOf c b = true ↔
      categoryOf c b = .known .c1 ∨ categoryOf c b = .known .c2 ∨ categoryOf c b = .known .c3 ∨
        categoryOf c b = .unknown)

/-- R227's columns of actions, budgets and fault signals (the budget of c0 is the spec's own "a model takes 0"). -/
def Obligations.CategoryTableIsR227 : Prop :=
  (ErrorCategory.timeout.action = .retry ∧ ErrorCategory.timeout.retryBudget = 2 ∧
    ErrorCategory.timeout.toFault = false) ∧
  (ErrorCategory.c0.action = .noAction ∧ ErrorCategory.c0.retryBudget = 0 ∧ ErrorCategory.c0.toFault = false) ∧
  (ErrorCategory.c1.action = .waitAndRetry ∧ ErrorCategory.c1.retryBudget = 2 ∧ ErrorCategory.c1.toFault = true) ∧
  (ErrorCategory.c2.action = .reinitialize ∧ ErrorCategory.c2.retryBudget = 1 ∧ ErrorCategory.c2.toFault = true) ∧
  (ErrorCategory.c3.action = .terminate ∧ ErrorCategory.c3.retryBudget = 0 ∧ ErrorCategory.c3.toFault = true)

/-! ### Reset (R26, R260) -/

/-- R26: the registers after reset, as far as the spec gives them. -/
def Obligations.ResetStateIsR26 : Prop :=
  State.reset.state = .idle ∧ State.reset.active = false ∧ State.reset.sendCtr = 0 ∧ State.reset.lastCtr = 0 ∧
    State.reset.timer = 0 ∧ State.reset.upN = 0 ∧ State.reset.upBuf = [] ∧ State.reset.crc0 = 0xFFFF#16 ∧
    State.reset.crc1 = 0xFFFF#16 ∧ State.reset.rActive = false

/-- R260: a RESET writes every register and outputs nothing; the arbiter's other three registers are unspecified after
it, so the statement says nothing of them (their free values are the model's, notes/assumptions/8.md).
The event sequence is the model's too (notes/assumptions/1.md). -/
def Obligations.ResetEventWritesEveryRegister : Prop :=
  ∀ (s : State) (rest : List Event), s.events = .reset :: rest →
    ∃ (op : CtrlOp) (left : Byte) (acc : KindSet),
      step s =
        .next { s with
          state := .idle, active := false, sendCtr := 0, lastCtr := 0, timer := 0, upN := 0, upBuf := []
          crc0 := 0xFFFF, crc1 := 0xFFFF, rActive := false, rOp := op, rLeft := left, rAccept := acc, out := {}
          events := rest, freeIdx := s.freeIdx + 1 }

/-! ### The retry arbiter (44_retry.md) -/

/-- R191: busy while a wrapper is in progress; else the three registers are latched and the operation is presented: an
accepted one is accepted exactly as if presented bare, a refused one answers its error with the attempts used up if the
error is acceptable. That a refused `RETRY` has written its registers, where R226 says in general that a synchronous
refusal changes none, is the model's reading of R191 and V52 (notes/assumptions/10.md). -/
def Obligations.RetryAttemptsItsOperation : Prop :=
  ∀ (op : CtrlOp) (times : Byte) (acc : KindSet) (s : State), s.cfg.hasController = true → s.cfg.hasRetry = true →
    op.wellFormed s.cfg = true →
    (s.rActive = true → exec (.retry op times acc) s = .next (s.afterRefusal .handlerBusy)) ∧
    (s.rActive = false → s.active = false → s.state = op.allowedFrom → op.contractHolds = true →
      ∃ t : State, exec op.toInstr s = .next t ∧ t.out.respond = some .accepted ∧ t.active = true ∧
        exec (.retry op times acc) s =
          .next { t with rActive := true, rOp := op, rLeft := times, rAccept := acc }) ∧
    (∀ e, s.rActive = false → exec op.toInstr s = .next (s.afterRefusal e) →
      exec (.retry op times acc) s =
        .next { s.afterRefusal e with
          rActive := false, rOp := op, rLeft := if kindIn e.kind acc = true then 0 else times, rAccept := acc })

/-- R192: what the arbiter does with the controller's result of an RX or TICK step, told by the step that the same
state without a wrapper takes. No result: nothing. Success, or an error that is not acceptable, or no attempt left: it
is the host's, and the wrapper ends. Else the operation is issued anew in the same step and the host sees no result.
The event sequence is the model's (notes/assumptions/1.md). -/
def Obligations.ArbiterTakesEveryResult : Prop :=
  ∀ (s t : State) (e : Event) (rest : List Event), s.Inv → s.rActive = true → s.events = e :: rest →
    (e = .tick ∨ ∃ f, e = .rx f) → step { s with rActive := false } = .next t →
    (t.out.resolve = none → step s = .next { t with rActive := true }) ∧
    (∀ v, t.out.resolve = some (.ok v) → step s = .next t) ∧
    (∀ err, t.out.resolve = some (.err err) → (kindIn err.kind s.rAccept = false ∨ s.rLeft = 0) →
      step s = .next t) ∧
    (∀ err, t.out.resolve = some (.err err) → kindIn err.kind s.rAccept = true → s.rLeft ≠ 0 →
      ∃ u : State, exec s.rOp.toInstr t = .next u ∧ u.out.respond = some .accepted ∧
        step s = .next { u with rActive := true, rLeft := s.rLeft - 1, out := { tx := u.out.tx } })

/-! ### The whole machine -/

/-- The reset state meets the invariant (R26, with the configuration of notes/assumptions/2.md). -/
def Obligations.ResetStateMeetsInvariant : Prop := State.reset.Inv

/-- The invariant of the block holds at every step boundary once it holds (R16, R19, R20, R21, R57, R193, R2 to R5):
from every state that meets it, whatever the events. -/
def Obligations.StepKeepsInvariant : Prop := ∀ s t : State, s.Inv → step s = .next t → t.Inv

/-- One event is taken per step (R50, R182) and the configuration "never changes while the block runs" (R10).
The event sequence is the model's (notes/assumptions/1.md). -/
def Obligations.StepTakesOneEventAndKeepsConfiguration : Prop :=
  ∀ s t : State, step s = .next t → t.cfg = s.cfg ∧ t.events = s.events.tail

/-- R183: the only transitions of `state`, and a stable state is left only by an accepted operation.
The event sequence is the model's (notes/assumptions/1.md). -/
def Obligations.StateMovesOnlyAlongItsTransitions : Prop :=
  ∀ s t : State, s.Inv → s.NotReset → step s = .next t →
    (t.state = s.state ∨
      (s.state = .idle ∧ t.state = .connecting) ∨
      (s.state = .connecting ∧ (t.state = .connected ∨ t.state = .idle)) ∨
      (s.state = .connected ∧ t.state.waiting = true ∧ t.state ≠ .connecting) ∨
      (s.state = .disconnecting ∧ (t.state = .idle ∨ t.state = .connected)) ∨
      (s.state.waiting = true ∧ s.state ≠ .connecting ∧ s.state ≠ .disconnecting ∧ t.state = .connected)) ∧
    (s.state.waiting = false → t.state ≠ s.state → t.out.respond = some .accepted ∧ t.out.tx ≠ none)

/-- R284's reason: outside a RESET, `idle` is entered only from `connecting`, or by an acknowledged `DISCONNECT`.
The event sequence is the model's (notes/assumptions/1.md). -/
def Obligations.IdleIsEnteredOnlyByDisconnectOrFailedConnect : Prop :=
  ∀ s t : State, s.Inv → s.NotReset → step s = .next t → t.state = .idle → s.state ≠ .idle →
    (s.state = .disconnecting ∧ t.out.resolve = some (.ok [])) ∨
    (s.state = .connecting ∧ ∃ e, t.out.resolve = some (.err e))

/-- R54 with R18 and R86: a frame leaves only with an accepted operation or a re-issue; it is a valid frame with the
host identifier, a command code and the current counter value, which is then consumed; with no frame the counters
stay.
The event sequence is the model's (notes/assumptions/1.md). -/
def Obligations.TransmissionConsumesOneCounterValue : Prop :=
  ∀ s t : State, s.Inv → s.NotReset → step s = .next t →
    (∀ f, t.out.tx = some f →
      f.id = s.cfg.idHost ∧ f.ext = true ∧ f.data.length = 8 ∧ f.data[1]? = some s.sendCtr ∧
        t.sendCtr = s.sendCtr + 1 ∧ t.lastCtr = s.sendCtr ∧ t.active = true ∧
        ∃ m, f.data[0]? = some (s.cfg.code.get m) ∧ t.timer = s.cfg.timeout.get m) ∧
    (t.out.tx = none → t.sendCtr = s.sendCtr ∧ t.lastCtr = s.lastCtr)

/-- R242 and R226: outside a RESET, a result appears exactly in the step that ends the outstanding transaction, and a
violation only with nothing outstanding and with no register changed.
The event sequence is the model's (notes/assumptions/1.md). -/
def Obligations.ResultsAppearWhenTransactionsEnd : Prop :=
  ∀ s t : State, s.Inv → s.NotReset → step s = .next t →
    (t.out.resolve.isSome = true ↔ s.active = true ∧ t.active = false) ∧
    (t.out.violation.isSome = true →
      s.active = false ∧ s.SameLanes t ∧ s.SameController t ∧ s.SameArbiter t ∧ t.out.tx = none)
end

