-- ==== Sys2Proof/Laws/Decode.lean ====
section
/-!
SUPPORT. Byte order (R43) both ways for each width the frames use, the lookups of codes and statuses (R124), and the byte
at a place as a slice of bits.
-/

namespace Sys2Proof

/-- A byte counted from the least significant end is a slice of 8 bits. -/
theorem byteAt_eq_extractLsb' {w : Nat} (k : Nat) (v : BitVec w) : byteAt k v = v.extractLsb' (8 * k) 8 := by
  apply BitVec.eq_of_toNat_eq
  simp [byteAt, BitVec.extractLsb'_toNat, Nat.shiftRight_eq_div_pow, Nat.pow_mul]

/-! ### A value from its bytes, and the bytes from a value -/

theorem ofBytes_be16 (v : Half) : ofBytes 16 (be16 v) = v := by
  apply BitVec.eq_of_toNat_eq
  simp only [ofBytes, natOfBytes, be16, byteAt, List.foldl, BitVec.toNat_ofNat]
  have := v.isLt; omega

theorem ofBytes_be24 (v : BitVec 24) : ofBytes 24 (be24 v) = v := by
  apply BitVec.eq_of_toNat_eq
  simp only [ofBytes, natOfBytes, be24, byteAt, List.foldl, BitVec.toNat_ofNat]
  have := v.isLt; omega

theorem ofBytes_be32 (v : BitVec 32) : ofBytes 32 (be32 v) = v := by
  apply BitVec.eq_of_toNat_eq
  simp only [ofBytes, natOfBytes, be32, byteAt, List.foldl, BitVec.toNat_ofNat]
  have := v.isLt; omega

theorem ofBytes_be40 (v : BitVec 40) : ofBytes 40 (be40 v) = v := by
  apply BitVec.eq_of_toNat_eq
  simp only [ofBytes, natOfBytes, be40, byteAt, List.foldl, BitVec.toNat_ofNat]
  have := v.isLt; omega

theorem ofBytes_be48 (v : BitVec 48) : ofBytes 48 (be48 v) = v := by
  apply BitVec.eq_of_toNat_eq
  simp only [ofBytes, natOfBytes, be48, byteAt, List.foldl, BitVec.toNat_ofNat]
  have := v.isLt; omega

theorem be16_ofBytes (a b : Byte) : be16 (ofBytes 16 [a,b]) = [a,b] := by
  simp only [be16, byteAt, ofBytes, natOfBytes, List.foldl, List.cons.injEq, and_true]
  have := a.isLt; have := b.isLt
  refine ⟨?_, ?_⟩ <;> apply BitVec.eq_of_toNat_eq <;> simp only [BitVec.toNat_ofNat] <;> omega

theorem be24_ofBytes (a b c : Byte) : be24 (ofBytes 24 [a,b,c]) = [a,b,c] := by
  simp only [be24, byteAt, ofBytes, natOfBytes, List.foldl, List.cons.injEq, and_true]
  have := a.isLt; have := b.isLt; have := c.isLt
  refine ⟨?_, ?_, ?_⟩ <;> apply BitVec.eq_of_toNat_eq <;> simp only [BitVec.toNat_ofNat] <;> omega

theorem be32_ofBytes (a b c d : Byte) : be32 (ofBytes 32 [a,b,c,d]) = [a,b,c,d] := by
  simp only [be32, byteAt, ofBytes, natOfBytes, List.foldl, List.cons.injEq, and_true]
  have := a.isLt; have := b.isLt; have := c.isLt; have := d.isLt
  refine ⟨?_, ?_, ?_, ?_⟩ <;> apply BitVec.eq_of_toNat_eq <;> simp only [BitVec.toNat_ofNat] <;> omega

theorem be40_ofBytes (a b c d e : Byte) : be40 (ofBytes 40 [a,b,c,d,e]) = [a,b,c,d,e] := by
  simp only [be40, byteAt, ofBytes, natOfBytes, List.foldl, List.cons.injEq, and_true]
  have := a.isLt; have := b.isLt; have := c.isLt; have := d.isLt; have := e.isLt
  refine ⟨?_, ?_, ?_, ?_, ?_⟩ <;> apply BitVec.eq_of_toNat_eq <;> simp only [BitVec.toNat_ofNat] <;> omega

theorem be48_ofBytes (a b c d e f : Byte) : be48 (ofBytes 48 [a,b,c,d,e,f]) = [a,b,c,d,e,f] := by
  simp only [be48, byteAt, ofBytes, natOfBytes, List.foldl, List.cons.injEq, and_true]
  have := a.isLt; have := b.isLt; have := c.isLt; have := d.isLt; have := e.isLt; have := f.isLt
  refine ⟨?_, ?_, ?_, ?_, ?_, ?_⟩ <;> apply BitVec.eq_of_toNat_eq <;> simp only [BitVec.toNat_ofNat] <;> omega

/-! ### The enumerations are listed whole -/

theorem CommandCode.mem_all (m : CommandCode) : m ∈ CommandCode.all := by
  cases m <;> decide

theorem CommandStatus.mem_all (m : CommandStatus) : m ∈ CommandStatus.all := by
  cases m <;> decide

theorem le_foldr_max_of_mem {l : List Nat} {x : Nat} (h : x ∈ l) : x ≤ l.foldr max 0 := by
  induction l with
  | nil => cases h
  | cons a l ih =>
    rcases List.mem_cons.1 h with rfl | h
    · exact Nat.le_max_left _ _
    · exact Nat.le_trans (ih h) (Nat.le_max_right _ _)

/-- Every timeout is within the timer's range (R10, R20). -/
theorem timeout_le_maxTimeout (c : Config) (m : CommandCode) : c.timeout.get m ≤ c.maxTimeout :=
  le_foldr_max_of_mem (List.mem_map_of_mem (CommandCode.mem_all m))

/-! ### Lookups (R124) -/

theorem lookupCode_some {c : Config} {x m} (h : lookupCode c x = some m) : c.code.get m = x := by
  have := List.find?_some h; simpa using this

theorem code_injective {c : Config} (h : c.codes.Nodup) {m m' : CommandCode}
    (he : c.code.get m = c.code.get m') : m = m' := by
  exact List.inj_on_of_nodup_map h (CommandCode.mem_all _) (CommandCode.mem_all _) he

theorem lookupCode_iff {c : Config} (h : c.codes.Nodup) (x : Byte) (m : CommandCode) :
    lookupCode c x = some m ↔ c.code.get m = x := by
  refine ⟨lookupCode_some, fun he => ?_⟩
  cases hl : lookupCode c x with
  | none =>
    have := List.find?_eq_none.1 hl m (CommandCode.mem_all m)
    simp [he] at this
  | some m' => rw [code_injective h ((lookupCode_some hl).trans he.symm)]

theorem lookupStatus_some {c : Config} {x m} (h : lookupStatus c x = some m) : c.status.get m = x := by
  have := List.find?_some h; simpa using this

theorem status_injective {c : Config} (h : c.statuses.Nodup) {m m' : CommandStatus}
    (he : c.status.get m = c.status.get m') : m = m' := by
  exact List.inj_on_of_nodup_map h (CommandStatus.mem_all _) (CommandStatus.mem_all _) he

theorem lookupStatus_iff {c : Config} (h : c.statuses.Nodup) (x : Byte) (m : CommandStatus) :
    lookupStatus c x = some m ↔ c.status.get m = x := by
  refine ⟨lookupStatus_some, fun he => ?_⟩
  cases hl : lookupStatus c x with
  | none =>
    have := List.find?_eq_none.1 hl m (CommandStatus.mem_all m)
    simp [he] at this
  | some m' => rw [status_injective h ((lookupStatus_some hl).trans he.symm)]

/-- R2: no command code is the reply marker. -/
theorem code_ne_replyMarker {c : Config} (h : 0xFF#8 ∉ c.codes) (m) : c.code.get m ≠ replyMarker := by
  intro he; apply h
  have := List.mem_map_of_mem (f := c.code.get) (CommandCode.mem_all m)
  rw [he] at this; exact this

/-- A lane number that decodes is the number of the lane it decodes to. -/
theorem laneNumber_of_laneOf {n : Nat} {lane : Lane} (h : laneOf n = some lane) : laneNumber lane = n := by
  match n, h with
  | 0, h => cases Option.some.inj h; rfl
  | 1, h => cases Option.some.inj h; rfl

end Sys2Proof
end

