-- ==== Sys2Proof/Laws/State.lean ====
section
/-!
SUPPORT. One lemma for each field and each named update of the state, so that no later proof unfolds a record update.
-/

namespace Sys2Proof.Machine

/-! ### No output yet -/

@[simp] theorem quiet_cfg (s : State) : (s.quiet).cfg = s.cfg := rfl
@[simp] theorem quiet_crc0 (s : State) : (s.quiet).crc0 = s.crc0 := rfl
@[simp] theorem quiet_crc1 (s : State) : (s.quiet).crc1 = s.crc1 := rfl
@[simp] theorem quiet_state (s : State) : (s.quiet).state = s.state := rfl
@[simp] theorem quiet_active (s : State) : (s.quiet).active = s.active := rfl
@[simp] theorem quiet_sendCtr (s : State) : (s.quiet).sendCtr = s.sendCtr := rfl
@[simp] theorem quiet_lastCtr (s : State) : (s.quiet).lastCtr = s.lastCtr := rfl
@[simp] theorem quiet_timer (s : State) : (s.quiet).timer = s.timer := rfl
@[simp] theorem quiet_upN (s : State) : (s.quiet).upN = s.upN := rfl
@[simp] theorem quiet_upBuf (s : State) : (s.quiet).upBuf = s.upBuf := rfl
@[simp] theorem quiet_rActive (s : State) : (s.quiet).rActive = s.rActive := rfl
@[simp] theorem quiet_rOp (s : State) : (s.quiet).rOp = s.rOp := rfl
@[simp] theorem quiet_rLeft (s : State) : (s.quiet).rLeft = s.rLeft := rfl
@[simp] theorem quiet_rAccept (s : State) : (s.quiet).rAccept = s.rAccept := rfl
@[simp] theorem quiet_out (s : State) : (s.quiet).out = {} := rfl
@[simp] theorem quiet_events (s : State) : (s.quiet).events = s.events := rfl
@[simp] theorem quiet_freeIdx (s : State) : (s.quiet).freeIdx = s.freeIdx := rfl

/-! ### An input that selects nothing -/

@[simp] theorem ignored_cfg (s : State) : (s.ignored).cfg = s.cfg := rfl
@[simp] theorem ignored_crc0 (s : State) : (s.ignored).crc0 = s.crc0 := rfl
@[simp] theorem ignored_crc1 (s : State) : (s.ignored).crc1 = s.crc1 := rfl
@[simp] theorem ignored_state (s : State) : (s.ignored).state = s.state := rfl
@[simp] theorem ignored_active (s : State) : (s.ignored).active = s.active := rfl
@[simp] theorem ignored_sendCtr (s : State) : (s.ignored).sendCtr = s.sendCtr := rfl
@[simp] theorem ignored_lastCtr (s : State) : (s.ignored).lastCtr = s.lastCtr := rfl
@[simp] theorem ignored_timer (s : State) : (s.ignored).timer = s.timer := rfl
@[simp] theorem ignored_upN (s : State) : (s.ignored).upN = s.upN := rfl
@[simp] theorem ignored_upBuf (s : State) : (s.ignored).upBuf = s.upBuf := rfl
@[simp] theorem ignored_rActive (s : State) : (s.ignored).rActive = s.rActive := rfl
@[simp] theorem ignored_rOp (s : State) : (s.ignored).rOp = s.rOp := rfl
@[simp] theorem ignored_rLeft (s : State) : (s.ignored).rLeft = s.rLeft := rfl
@[simp] theorem ignored_rAccept (s : State) : (s.ignored).rAccept = s.rAccept := rfl
@[simp] theorem ignored_out (s : State) : (s.ignored).out = {} := rfl
@[simp] theorem ignored_events (s : State) : (s.ignored).events = s.events := rfl
@[simp] theorem ignored_freeIdx (s : State) : (s.ignored).freeIdx = s.freeIdx := rfl

/-! ### A response -/

@[simp] theorem respond_cfg (s : State) (v : Response) : (s.respond v).cfg = s.cfg := rfl
@[simp] theorem respond_crc0 (s : State) (v : Response) : (s.respond v).crc0 = s.crc0 := rfl
@[simp] theorem respond_crc1 (s : State) (v : Response) : (s.respond v).crc1 = s.crc1 := rfl
@[simp] theorem respond_state (s : State) (v : Response) : (s.respond v).state = s.state := rfl
@[simp] theorem respond_active (s : State) (v : Response) : (s.respond v).active = s.active := rfl
@[simp] theorem respond_sendCtr (s : State) (v : Response) : (s.respond v).sendCtr = s.sendCtr := rfl
@[simp] theorem respond_lastCtr (s : State) (v : Response) : (s.respond v).lastCtr = s.lastCtr := rfl
@[simp] theorem respond_timer (s : State) (v : Response) : (s.respond v).timer = s.timer := rfl
@[simp] theorem respond_upN (s : State) (v : Response) : (s.respond v).upN = s.upN := rfl
@[simp] theorem respond_upBuf (s : State) (v : Response) : (s.respond v).upBuf = s.upBuf := rfl
@[simp] theorem respond_rActive (s : State) (v : Response) : (s.respond v).rActive = s.rActive := rfl
@[simp] theorem respond_rOp (s : State) (v : Response) : (s.respond v).rOp = s.rOp := rfl
@[simp] theorem respond_rLeft (s : State) (v : Response) : (s.respond v).rLeft = s.rLeft := rfl
@[simp] theorem respond_rAccept (s : State) (v : Response) : (s.respond v).rAccept = s.rAccept := rfl
@[simp] theorem respond_out (s : State) (v : Response) : (s.respond v).out = { s.out with respond := some v } := rfl
@[simp] theorem respond_events (s : State) (v : Response) : (s.respond v).events = s.events := rfl
@[simp] theorem respond_freeIdx (s : State) (v : Response) : (s.respond v).freeIdx = s.freeIdx := rfl

/-! ### A transmitted frame -/

@[simp] theorem transmit_cfg (s : State) (f : Frame) : (s.transmit f).cfg = s.cfg := rfl
@[simp] theorem transmit_crc0 (s : State) (f : Frame) : (s.transmit f).crc0 = s.crc0 := rfl
@[simp] theorem transmit_crc1 (s : State) (f : Frame) : (s.transmit f).crc1 = s.crc1 := rfl
@[simp] theorem transmit_state (s : State) (f : Frame) : (s.transmit f).state = s.state := rfl
@[simp] theorem transmit_active (s : State) (f : Frame) : (s.transmit f).active = s.active := rfl
@[simp] theorem transmit_sendCtr (s : State) (f : Frame) : (s.transmit f).sendCtr = s.sendCtr := rfl
@[simp] theorem transmit_lastCtr (s : State) (f : Frame) : (s.transmit f).lastCtr = s.lastCtr := rfl
@[simp] theorem transmit_timer (s : State) (f : Frame) : (s.transmit f).timer = s.timer := rfl
@[simp] theorem transmit_upN (s : State) (f : Frame) : (s.transmit f).upN = s.upN := rfl
@[simp] theorem transmit_upBuf (s : State) (f : Frame) : (s.transmit f).upBuf = s.upBuf := rfl
@[simp] theorem transmit_rActive (s : State) (f : Frame) : (s.transmit f).rActive = s.rActive := rfl
@[simp] theorem transmit_rOp (s : State) (f : Frame) : (s.transmit f).rOp = s.rOp := rfl
@[simp] theorem transmit_rLeft (s : State) (f : Frame) : (s.transmit f).rLeft = s.rLeft := rfl
@[simp] theorem transmit_rAccept (s : State) (f : Frame) : (s.transmit f).rAccept = s.rAccept := rfl
@[simp] theorem transmit_out (s : State) (f : Frame) : (s.transmit f).out = { s.out with tx := some f } := rfl
@[simp] theorem transmit_events (s : State) (f : Frame) : (s.transmit f).events = s.events := rfl
@[simp] theorem transmit_freeIdx (s : State) (f : Frame) : (s.transmit f).freeIdx = s.freeIdx := rfl

/-! ### A delivered result -/

@[simp] theorem resolved_cfg (s : State) (r : Result) : (s.resolved r).cfg = s.cfg := rfl
@[simp] theorem resolved_crc0 (s : State) (r : Result) : (s.resolved r).crc0 = s.crc0 := rfl
@[simp] theorem resolved_crc1 (s : State) (r : Result) : (s.resolved r).crc1 = s.crc1 := rfl
@[simp] theorem resolved_state (s : State) (r : Result) : (s.resolved r).state = s.state := rfl
@[simp] theorem resolved_active (s : State) (r : Result) : (s.resolved r).active = s.active := rfl
@[simp] theorem resolved_sendCtr (s : State) (r : Result) : (s.resolved r).sendCtr = s.sendCtr := rfl
@[simp] theorem resolved_lastCtr (s : State) (r : Result) : (s.resolved r).lastCtr = s.lastCtr := rfl
@[simp] theorem resolved_timer (s : State) (r : Result) : (s.resolved r).timer = s.timer := rfl
@[simp] theorem resolved_upN (s : State) (r : Result) : (s.resolved r).upN = s.upN := rfl
@[simp] theorem resolved_upBuf (s : State) (r : Result) : (s.resolved r).upBuf = s.upBuf := rfl
@[simp] theorem resolved_rActive (s : State) (r : Result) : (s.resolved r).rActive = s.rActive := rfl
@[simp] theorem resolved_rOp (s : State) (r : Result) : (s.resolved r).rOp = s.rOp := rfl
@[simp] theorem resolved_rLeft (s : State) (r : Result) : (s.resolved r).rLeft = s.rLeft := rfl
@[simp] theorem resolved_rAccept (s : State) (r : Result) : (s.resolved r).rAccept = s.rAccept := rfl
@[simp] theorem resolved_out (s : State) (r : Result) : (s.resolved r).out = { s.out with resolve := some r } := rfl
@[simp] theorem resolved_events (s : State) (r : Result) : (s.resolved r).events = s.events := rfl
@[simp] theorem resolved_freeIdx (s : State) (r : Result) : (s.resolved r).freeIdx = s.freeIdx := rfl

/-! ### A violation -/

@[simp] theorem violation_cfg (s : State) (e : Err) : (s.violation e).cfg = s.cfg := rfl
@[simp] theorem violation_crc0 (s : State) (e : Err) : (s.violation e).crc0 = s.crc0 := rfl
@[simp] theorem violation_crc1 (s : State) (e : Err) : (s.violation e).crc1 = s.crc1 := rfl
@[simp] theorem violation_state (s : State) (e : Err) : (s.violation e).state = s.state := rfl
@[simp] theorem violation_active (s : State) (e : Err) : (s.violation e).active = s.active := rfl
@[simp] theorem violation_sendCtr (s : State) (e : Err) : (s.violation e).sendCtr = s.sendCtr := rfl
@[simp] theorem violation_lastCtr (s : State) (e : Err) : (s.violation e).lastCtr = s.lastCtr := rfl
@[simp] theorem violation_timer (s : State) (e : Err) : (s.violation e).timer = s.timer := rfl
@[simp] theorem violation_upN (s : State) (e : Err) : (s.violation e).upN = s.upN := rfl
@[simp] theorem violation_upBuf (s : State) (e : Err) : (s.violation e).upBuf = s.upBuf := rfl
@[simp] theorem violation_rActive (s : State) (e : Err) : (s.violation e).rActive = s.rActive := rfl
@[simp] theorem violation_rOp (s : State) (e : Err) : (s.violation e).rOp = s.rOp := rfl
@[simp] theorem violation_rLeft (s : State) (e : Err) : (s.violation e).rLeft = s.rLeft := rfl
@[simp] theorem violation_rAccept (s : State) (e : Err) : (s.violation e).rAccept = s.rAccept := rfl
@[simp] theorem violation_out (s : State) (e : Err) : (s.violation e).out = { s.out with violation := some e } := rfl
@[simp] theorem violation_events (s : State) (e : Err) : (s.violation e).events = s.events := rfl
@[simp] theorem violation_freeIdx (s : State) (e : Err) : (s.violation e).freeIdx = s.freeIdx := rfl

/-! ### The next event -/

@[simp] theorem presentEvent_cfg (e : Event) (s : State) : (s.presentEvent e).cfg = s.cfg := rfl
@[simp] theorem presentEvent_crc0 (e : Event) (s : State) : (s.presentEvent e).crc0 = s.crc0 := rfl
@[simp] theorem presentEvent_crc1 (e : Event) (s : State) : (s.presentEvent e).crc1 = s.crc1 := rfl
@[simp] theorem presentEvent_state (e : Event) (s : State) : (s.presentEvent e).state = s.state := rfl
@[simp] theorem presentEvent_active (e : Event) (s : State) : (s.presentEvent e).active = s.active := rfl
@[simp] theorem presentEvent_sendCtr (e : Event) (s : State) : (s.presentEvent e).sendCtr = s.sendCtr := rfl
@[simp] theorem presentEvent_lastCtr (e : Event) (s : State) : (s.presentEvent e).lastCtr = s.lastCtr := rfl
@[simp] theorem presentEvent_timer (e : Event) (s : State) : (s.presentEvent e).timer = s.timer := rfl
@[simp] theorem presentEvent_upN (e : Event) (s : State) : (s.presentEvent e).upN = s.upN := rfl
@[simp] theorem presentEvent_upBuf (e : Event) (s : State) : (s.presentEvent e).upBuf = s.upBuf := rfl
@[simp] theorem presentEvent_rActive (e : Event) (s : State) : (s.presentEvent e).rActive = s.rActive := rfl
@[simp] theorem presentEvent_rOp (e : Event) (s : State) : (s.presentEvent e).rOp = s.rOp := rfl
@[simp] theorem presentEvent_rLeft (e : Event) (s : State) : (s.presentEvent e).rLeft = s.rLeft := rfl
@[simp] theorem presentEvent_rAccept (e : Event) (s : State) : (s.presentEvent e).rAccept = s.rAccept := rfl
@[simp] theorem presentEvent_out (e : Event) (s : State) : (s.presentEvent e).out = s.out := rfl
@[simp] theorem presentEvent_events (e : Event) (s : State) : (s.presentEvent e).events = e :: s.events := rfl
@[simp] theorem presentEvent_freeIdx (e : Event) (s : State) : (s.presentEvent e).freeIdx = s.freeIdx := rfl

/-! ### A lane written -/

@[simp] theorem setLane_cfg (s : State) (l : Lane) (v : Half) : (s.setLane l v).cfg = s.cfg := by cases l <;> rfl
@[simp] theorem setLane_state (s : State) (l : Lane) (v : Half) : (s.setLane l v).state = s.state := by cases l <;> rfl
@[simp] theorem setLane_active (s : State) (l : Lane) (v : Half) : (s.setLane l v).active = s.active := by cases l <;> rfl
@[simp] theorem setLane_sendCtr (s : State) (l : Lane) (v : Half) : (s.setLane l v).sendCtr = s.sendCtr := by cases l <;> rfl
@[simp] theorem setLane_lastCtr (s : State) (l : Lane) (v : Half) : (s.setLane l v).lastCtr = s.lastCtr := by cases l <;> rfl
@[simp] theorem setLane_timer (s : State) (l : Lane) (v : Half) : (s.setLane l v).timer = s.timer := by cases l <;> rfl
@[simp] theorem setLane_upN (s : State) (l : Lane) (v : Half) : (s.setLane l v).upN = s.upN := by cases l <;> rfl
@[simp] theorem setLane_upBuf (s : State) (l : Lane) (v : Half) : (s.setLane l v).upBuf = s.upBuf := by cases l <;> rfl
@[simp] theorem setLane_rActive (s : State) (l : Lane) (v : Half) : (s.setLane l v).rActive = s.rActive := by cases l <;> rfl
@[simp] theorem setLane_rOp (s : State) (l : Lane) (v : Half) : (s.setLane l v).rOp = s.rOp := by cases l <;> rfl
@[simp] theorem setLane_rLeft (s : State) (l : Lane) (v : Half) : (s.setLane l v).rLeft = s.rLeft := by cases l <;> rfl
@[simp] theorem setLane_rAccept (s : State) (l : Lane) (v : Half) : (s.setLane l v).rAccept = s.rAccept := by cases l <;> rfl
@[simp] theorem setLane_out (s : State) (l : Lane) (v : Half) : (s.setLane l v).out = s.out := by cases l <;> rfl
@[simp] theorem setLane_events (s : State) (l : Lane) (v : Half) : (s.setLane l v).events = s.events := by cases l <;> rfl
@[simp] theorem setLane_freeIdx (s : State) (l : Lane) (v : Half) : (s.setLane l v).freeIdx = s.freeIdx := by cases l <;> rfl

theorem setLane_zero (s : State) (v : Half) : s.setLane .zero v = { s with crc0 := v } := rfl
theorem setLane_one (s : State) (v : Half) : s.setLane .one v = { s with crc1 := v } := rfl
@[simp] theorem lane_setLane_same (s : State) (l : Lane) (v : Half) : (s.setLane l v).lane l = v := by cases l <;> rfl

/-! ### Lanes mapped -/

@[simp] theorem mapLanes_cfg (s : State) (m : BitVec 2) (g : Half → Half) : (s.mapLanes m g).cfg = s.cfg := rfl
@[simp] theorem mapLanes_crc0 (s : State) (m : BitVec 2) (g : Half → Half) : (s.mapLanes m g).crc0 = if laneSelected m .zero then g s.crc0 else s.crc0 := rfl
@[simp] theorem mapLanes_crc1 (s : State) (m : BitVec 2) (g : Half → Half) : (s.mapLanes m g).crc1 = if laneSelected m .one then g s.crc1 else s.crc1 := rfl
@[simp] theorem mapLanes_state (s : State) (m : BitVec 2) (g : Half → Half) : (s.mapLanes m g).state = s.state := rfl
@[simp] theorem mapLanes_active (s : State) (m : BitVec 2) (g : Half → Half) : (s.mapLanes m g).active = s.active := rfl
@[simp] theorem mapLanes_sendCtr (s : State) (m : BitVec 2) (g : Half → Half) : (s.mapLanes m g).sendCtr = s.sendCtr := rfl
@[simp] theorem mapLanes_lastCtr (s : State) (m : BitVec 2) (g : Half → Half) : (s.mapLanes m g).lastCtr = s.lastCtr := rfl
@[simp] theorem mapLanes_timer (s : State) (m : BitVec 2) (g : Half → Half) : (s.mapLanes m g).timer = s.timer := rfl
@[simp] theorem mapLanes_upN (s : State) (m : BitVec 2) (g : Half → Half) : (s.mapLanes m g).upN = s.upN := rfl
@[simp] theorem mapLanes_upBuf (s : State) (m : BitVec 2) (g : Half → Half) : (s.mapLanes m g).upBuf = s.upBuf := rfl
@[simp] theorem mapLanes_rActive (s : State) (m : BitVec 2) (g : Half → Half) : (s.mapLanes m g).rActive = s.rActive := rfl
@[simp] theorem mapLanes_rOp (s : State) (m : BitVec 2) (g : Half → Half) : (s.mapLanes m g).rOp = s.rOp := rfl
@[simp] theorem mapLanes_rLeft (s : State) (m : BitVec 2) (g : Half → Half) : (s.mapLanes m g).rLeft = s.rLeft := rfl
@[simp] theorem mapLanes_rAccept (s : State) (m : BitVec 2) (g : Half → Half) : (s.mapLanes m g).rAccept = s.rAccept := rfl
@[simp] theorem mapLanes_out (s : State) (m : BitVec 2) (g : Half → Half) : (s.mapLanes m g).out = s.out := rfl
@[simp] theorem mapLanes_events (s : State) (m : BitVec 2) (g : Half → Half) : (s.mapLanes m g).events = s.events := rfl
@[simp] theorem mapLanes_freeIdx (s : State) (m : BitVec 2) (g : Half → Half) : (s.mapLanes m g).freeIdx = s.freeIdx := rfl

/-! ### A command issued -/

@[simp] theorem issue_cfg (c : CommandCode) (p : List Byte) (w : HandlerState) (s : State) : (issue c p w s).cfg = s.cfg := rfl
@[simp] theorem issue_crc0 (c : CommandCode) (p : List Byte) (w : HandlerState) (s : State) : (issue c p w s).crc0 = s.crc0 := rfl
@[simp] theorem issue_crc1 (c : CommandCode) (p : List Byte) (w : HandlerState) (s : State) : (issue c p w s).crc1 = s.crc1 := rfl
@[simp] theorem issue_state (c : CommandCode) (p : List Byte) (w : HandlerState) (s : State) : (issue c p w s).state = w := rfl
@[simp] theorem issue_active (c : CommandCode) (p : List Byte) (w : HandlerState) (s : State) : (issue c p w s).active = true := rfl
@[simp] theorem issue_sendCtr (c : CommandCode) (p : List Byte) (w : HandlerState) (s : State) : (issue c p w s).sendCtr = s.sendCtr + 1 := rfl
@[simp] theorem issue_lastCtr (c : CommandCode) (p : List Byte) (w : HandlerState) (s : State) : (issue c p w s).lastCtr = s.sendCtr := rfl
@[simp] theorem issue_timer (c : CommandCode) (p : List Byte) (w : HandlerState) (s : State) : (issue c p w s).timer = s.cfg.timeout.get c := rfl
@[simp] theorem issue_upN (c : CommandCode) (p : List Byte) (w : HandlerState) (s : State) : (issue c p w s).upN = s.upN := rfl
@[simp] theorem issue_upBuf (c : CommandCode) (p : List Byte) (w : HandlerState) (s : State) : (issue c p w s).upBuf = s.upBuf := rfl
@[simp] theorem issue_rActive (c : CommandCode) (p : List Byte) (w : HandlerState) (s : State) : (issue c p w s).rActive = s.rActive := rfl
@[simp] theorem issue_rOp (c : CommandCode) (p : List Byte) (w : HandlerState) (s : State) : (issue c p w s).rOp = s.rOp := rfl
@[simp] theorem issue_rLeft (c : CommandCode) (p : List Byte) (w : HandlerState) (s : State) : (issue c p w s).rLeft = s.rLeft := rfl
@[simp] theorem issue_rAccept (c : CommandCode) (p : List Byte) (w : HandlerState) (s : State) : (issue c p w s).rAccept = s.rAccept := rfl
@[simp] theorem issue_out (c : CommandCode) (p : List Byte) (w : HandlerState) (s : State) : (issue c p w s).out = { s.out with tx := some (commandFrame s.cfg (s.cfg.code.get c) s.sendCtr p) } := rfl
@[simp] theorem issue_events (c : CommandCode) (p : List Byte) (w : HandlerState) (s : State) : (issue c p w s).events = s.events := rfl
@[simp] theorem issue_freeIdx (c : CommandCode) (p : List Byte) (w : HandlerState) (s : State) : (issue c p w s).freeIdx = s.freeIdx := rfl

/-! ### Operands latched -/

@[simp] theorem latch_cfg (op : CtrlOp) (s : State) : (latch op s).cfg = s.cfg := by cases op <;> rfl
@[simp] theorem latch_crc0 (op : CtrlOp) (s : State) : (latch op s).crc0 = s.crc0 := by cases op <;> rfl
@[simp] theorem latch_crc1 (op : CtrlOp) (s : State) : (latch op s).crc1 = s.crc1 := by cases op <;> rfl
@[simp] theorem latch_state (op : CtrlOp) (s : State) : (latch op s).state = s.state := by cases op <;> rfl
@[simp] theorem latch_active (op : CtrlOp) (s : State) : (latch op s).active = s.active := by cases op <;> rfl
@[simp] theorem latch_sendCtr (op : CtrlOp) (s : State) : (latch op s).sendCtr = s.sendCtr := by cases op <;> rfl
@[simp] theorem latch_lastCtr (op : CtrlOp) (s : State) : (latch op s).lastCtr = s.lastCtr := by cases op <;> rfl
@[simp] theorem latch_timer (op : CtrlOp) (s : State) : (latch op s).timer = s.timer := by cases op <;> rfl
@[simp] theorem latch_rActive (op : CtrlOp) (s : State) : (latch op s).rActive = s.rActive := by cases op <;> rfl
@[simp] theorem latch_rOp (op : CtrlOp) (s : State) : (latch op s).rOp = s.rOp := by cases op <;> rfl
@[simp] theorem latch_rLeft (op : CtrlOp) (s : State) : (latch op s).rLeft = s.rLeft := by cases op <;> rfl
@[simp] theorem latch_rAccept (op : CtrlOp) (s : State) : (latch op s).rAccept = s.rAccept := by cases op <;> rfl
@[simp] theorem latch_out (op : CtrlOp) (s : State) : (latch op s).out = s.out := by cases op <;> rfl
@[simp] theorem latch_events (op : CtrlOp) (s : State) : (latch op s).events = s.events := by cases op <;> rfl
@[simp] theorem latch_freeIdx (op : CtrlOp) (s : State) : (latch op s).freeIdx = s.freeIdx := by cases op <;> rfl

/-! ### A command accepted -/

@[simp] theorem accept_cfg (op : CtrlOp) (s : State) : (accept op s).cfg = s.cfg := by cases op <;> rfl
@[simp] theorem accept_crc0 (op : CtrlOp) (s : State) : (accept op s).crc0 = s.crc0 := by cases op <;> rfl
@[simp] theorem accept_crc1 (op : CtrlOp) (s : State) : (accept op s).crc1 = s.crc1 := by cases op <;> rfl
@[simp] theorem accept_state (op : CtrlOp) (s : State) : (accept op s).state = op.waitingState := by cases op <;> rfl
@[simp] theorem accept_active (op : CtrlOp) (s : State) : (accept op s).active = true := by cases op <;> rfl
@[simp] theorem accept_sendCtr (op : CtrlOp) (s : State) : (accept op s).sendCtr = s.sendCtr + 1 := by cases op <;> rfl
@[simp] theorem accept_lastCtr (op : CtrlOp) (s : State) : (accept op s).lastCtr = s.sendCtr := by cases op <;> rfl
@[simp] theorem accept_timer (op : CtrlOp) (s : State) : (accept op s).timer = s.cfg.timeout.get op.code := by cases op <;> rfl
@[simp] theorem accept_upN (op : CtrlOp) (s : State) : (accept op s).upN = (latch op s).upN := by cases op <;> rfl
@[simp] theorem accept_upBuf (op : CtrlOp) (s : State) : (accept op s).upBuf = (latch op s).upBuf := by cases op <;> rfl
@[simp] theorem accept_rActive (op : CtrlOp) (s : State) : (accept op s).rActive = s.rActive := by cases op <;> rfl
@[simp] theorem accept_rOp (op : CtrlOp) (s : State) : (accept op s).rOp = s.rOp := by cases op <;> rfl
@[simp] theorem accept_rLeft (op : CtrlOp) (s : State) : (accept op s).rLeft = s.rLeft := by cases op <;> rfl
@[simp] theorem accept_rAccept (op : CtrlOp) (s : State) : (accept op s).rAccept = s.rAccept := by cases op <;> rfl
@[simp] theorem accept_out (op : CtrlOp) (s : State) : (accept op s).out = { s.out with tx := some (commandFrame s.cfg (s.cfg.code.get op.code) s.sendCtr (op.payload s.cfg)) } := by cases op <;> rfl
@[simp] theorem accept_events (op : CtrlOp) (s : State) : (accept op s).events = s.events := by cases op <;> rfl
@[simp] theorem accept_freeIdx (op : CtrlOp) (s : State) : (accept op s).freeIdx = s.freeIdx := by cases op <;> rfl

/-! ### A wrapper abandoned -/

@[simp] theorem abandonRetry_cfg (s : State) : (s.abandonRetry).cfg = s.cfg := by unfold State.abandonRetry; split <;> rfl
@[simp] theorem abandonRetry_crc0 (s : State) : (s.abandonRetry).crc0 = s.crc0 := by unfold State.abandonRetry; split <;> rfl
@[simp] theorem abandonRetry_crc1 (s : State) : (s.abandonRetry).crc1 = s.crc1 := by unfold State.abandonRetry; split <;> rfl
@[simp] theorem abandonRetry_state (s : State) : (s.abandonRetry).state = s.state := by unfold State.abandonRetry; split <;> rfl
@[simp] theorem abandonRetry_active (s : State) : (s.abandonRetry).active = s.active := by unfold State.abandonRetry; split <;> rfl
@[simp] theorem abandonRetry_sendCtr (s : State) : (s.abandonRetry).sendCtr = s.sendCtr := by unfold State.abandonRetry; split <;> rfl
@[simp] theorem abandonRetry_lastCtr (s : State) : (s.abandonRetry).lastCtr = s.lastCtr := by unfold State.abandonRetry; split <;> rfl
@[simp] theorem abandonRetry_timer (s : State) : (s.abandonRetry).timer = s.timer := by unfold State.abandonRetry; split <;> rfl
@[simp] theorem abandonRetry_upN (s : State) : (s.abandonRetry).upN = s.upN := by unfold State.abandonRetry; split <;> rfl
@[simp] theorem abandonRetry_upBuf (s : State) : (s.abandonRetry).upBuf = s.upBuf := by unfold State.abandonRetry; split <;> rfl
@[simp] theorem abandonRetry_rOp (s : State) : (s.abandonRetry).rOp = s.rOp := by unfold State.abandonRetry; split <;> rfl
@[simp] theorem abandonRetry_rLeft (s : State) : (s.abandonRetry).rLeft = s.rLeft := by unfold State.abandonRetry; split <;> rfl
@[simp] theorem abandonRetry_rAccept (s : State) : (s.abandonRetry).rAccept = s.rAccept := by unfold State.abandonRetry; split <;> rfl
@[simp] theorem abandonRetry_out (s : State) : (s.abandonRetry).out = s.out := by unfold State.abandonRetry; split <;> rfl
@[simp] theorem abandonRetry_events (s : State) : (s.abandonRetry).events = s.events := by unfold State.abandonRetry; split <;> rfl
@[simp] theorem abandonRetry_freeIdx (s : State) : (s.abandonRetry).freeIdx = s.freeIdx := by unfold State.abandonRetry; split <;> rfl

end Sys2Proof.Machine
end

