-- ==== Sys2Proof/Laws/Ops.lean ====
section
/-!
SUPPORT. For each shared operation, what it can do, said once: later proofs cite these and do not unfold the operations.
-/

namespace Sys2Proof.Machine

/-! ### The tests of an operation (R140) -/

theorem contractHolds_download_iff (d : List Byte) :
    (CtrlOp.download d).contractHolds = true ↔ d.length ≤ 5 ∧ d.length % 2 = 0 := by
  simp only [CtrlOp.contractHolds, Bool.and_eq_true, decide_eq_true_eq]
  exact Iff.rfl

theorem contractHolds_download6_iff (d : List Byte) :
    (CtrlOp.download6 d).contractHolds = true ↔ d.length = 6 := by
  simp only [CtrlOp.contractHolds, decide_eq_true_eq]
  exact Iff.rfl

theorem contractHolds_upload_iff (n : Byte) (block : Bool) :
    (CtrlOp.upload n block).contractHolds = true ↔ block = true ∨ n.toNat ≤ 5 := by
  simp only [CtrlOp.contractHolds, Bool.or_eq_true, decide_eq_true_eq]
  exact Iff.rfl

theorem refusal_eq_none_iff (op : CtrlOp) (s : State) :
    refusal op s = none ↔ s.active = false ∧ s.state = op.allowedFrom ∧ op.contractHolds = true := by
  unfold refusal
  cases s.active <;> by_cases h : s.state = op.allowedFrom <;> cases op.contractHolds <;> simp [h]

/-- A refused operation: which test it failed first (R231). -/
theorem refusal_cases {op : CtrlOp} {s : State} {e : Err} (h : refusal op s = some e) :
    (s.active = true ∧ e = .handlerBusy) ∨
    (s.active = false ∧ s.state ≠ op.allowedFrom ∧ e = .stateViolation) ∨
    (s.active = false ∧ s.state = op.allowedFrom ∧ op.contractHolds = false ∧ e = .payloadLength) := by
  unfold refusal at h
  cases ha : s.active <;> by_cases hs : s.state = op.allowedFrom <;> cases hc : op.contractHolds <;>
    simp_all

/-- The tests read `active` and `state` and nothing else. -/
theorem refusal_congr (op : CtrlOp) {s t : State} (ha : s.active = t.active) (hs : s.state = t.state) :
    refusal op s = refusal op t := by
  simp only [refusal, ha, hs]

/-! ### Presenting an operation (R140, R141) -/

theorem present_absent {op : CtrlOp} {s : State} (h : s.admits op = false) : present op s = s.ignored := by
  simp [present, h]

theorem present_refused {op : CtrlOp} {s : State} {e : Err} (ha : s.admits op = true)
    (h : refusal op s = some e) : present op s = s.quiet.respond (.err e) := by
  simp [present, ha, h]

theorem present_accepted {op : CtrlOp} {s : State} (ha : s.admits op = true) (h : refusal op s = none) :
    present op s = (accept op s.quiet).respond .accepted := by
  simp [present, ha, h]

/-- A controller operation at the operation port, whichever of the nine it is. -/
theorem exec_toInstr (op : CtrlOp) (s : State) : exec op.toInstr s = .next (present op s) := by
  cases op <;> rfl

theorem present_cases (op : CtrlOp) (s : State) :
    (s.admits op = false ∧ present op s = s.ignored) ∨
    (s.admits op = true ∧ ∃ e, refusal op s = some e ∧ present op s = s.quiet.respond (.err e)) ∨
    (s.admits op = true ∧ refusal op s = none ∧ present op s = (accept op s.quiet).respond .accepted) := by
  cases ha : s.admits op with
  | false => exact .inl ⟨rfl, present_absent ha⟩
  | true =>
    cases h : refusal op s with
    | none => exact .inr (.inr ⟨rfl, rfl, present_accepted ha h⟩)
    | some e => exact .inr (.inl ⟨rfl, e, rfl, present_refused ha h⟩)

/-! ### The retry arbiter (R191, R192) -/

theorem attempt_accepted {sync : Bool} {left : Nat} {s : State} (h : refusal s.rOp s = none) :
    attempt sync left s =
      if sync then { accept s.rOp s with rActive := true }.respond .accepted
      else { accept s.rOp s with rActive := true } := by
  cases left <;> simp [attempt, h]

/-- A refused operation is refused each time it is presented again in the same step, so the loop ends with that error:
at once when it is not acceptable, else with every attempt used up (R191). -/
theorem attempt_refused {sync : Bool} {e : Err} (left : Nat) {s : State} (h : refusal s.rOp s = some e) :
    attempt sync left s =
      { s with
        rActive := false
        rLeft := if kindIn e.kind s.rAccept then s.rLeft - BitVec.ofNat 8 left else s.rLeft }.report sync e := by
  induction left generalizing s with
  | zero => simp [attempt, h]
  | succ n ih =>
    cases hk : kindIn e.kind s.rAccept with
    | false => simp [attempt, h, hk]
    | true =>
      have h' : refusal ({ s with rLeft := s.rLeft - 1 } : State).rOp { s with rLeft := s.rLeft - 1 } = some e := by
        rw [← h]; exact refusal_congr _ rfl rfl
      have hn : s.rLeft - 1 - BitVec.ofNat 8 n = s.rLeft - BitVec.ofNat 8 (n + 1) := by
        apply BitVec.eq_of_toNat_eq
        have h1 : BitVec.toNat (1 : Byte) = 1 := rfl
        simp only [BitVec.toNat_sub, BitVec.toNat_ofNat, h1]
        omega
      rw [attempt]
      simp only [h, hk, if_true]
      rw [ih h']
      simp only [hk, if_true, hn]

theorem attempt_cases (sync : Bool) (left : Nat) (s : State) :
    (refusal s.rOp s = none ∧
      attempt sync left s =
        if sync then { accept s.rOp s with rActive := true }.respond .accepted
        else { accept s.rOp s with rActive := true }) ∨
    (∃ e, ∃ n : Byte, refusal s.rOp s = some e ∧
      attempt sync left s = { s with rActive := false, rLeft := n }.report sync e) := by
  cases h : refusal s.rOp s with
  | none => exact .inl ⟨rfl, attempt_accepted h⟩
  | some e => exact .inr ⟨e, _, rfl, attempt_refused left h⟩

/-- With no wrapper in progress a result passes straight to the host (R190). -/
theorem deliver_transparent {r : Result} {s : State} (h : s.rActive = false) : deliver r s = s.resolved r := by
  simp [deliver, h]

theorem deliver_ok {b : List Byte} {s : State} (hr : s.cfg.hasRetry = true) (h : s.rActive = true) :
    deliver (.ok b) s = { s with rActive := false }.resolved (.ok b) := by
  simp [deliver, h, hr]

/-- What the arbiter does with a result: pass it to the host, or present the wrapped operation again (R192). -/
theorem deliver_cases (r : Result) (s : State) :
    (∃ b, deliver r s = { s with rActive := b }.resolved r ∧ (b = true → s.rActive = true ∧ s.cfg.hasRetry = false)) ∨
    (∃ e, r = .err e ∧ s.cfg.hasRetry = true ∧ s.rActive = true ∧ kindIn e.kind s.rAccept = true ∧ 0 < s.rLeft.toNat ∧
      deliver r s = attempt false (s.rLeft.toNat - 1) { s with rLeft := s.rLeft - 1 }) := by
  unfold deliver
  cases hr : s.cfg.hasRetry <;> cases ha : s.rActive
  · exact .inl ⟨false, by simp [← ha], by simp⟩
  · exact .inl ⟨true, by simp [← ha], by simp⟩
  · exact .inl ⟨false, by simp [← ha], by simp⟩
  · cases r with
    | ok b => exact .inl ⟨false, by simp, by simp⟩
    | err e =>
      by_cases hk : (kindIn e.kind s.rAccept && decide (0 < s.rLeft.toNat)) = true
      · have hk' := hk
        simp only [Bool.and_eq_true, decide_eq_true_eq] at hk'
        exact .inr ⟨e, rfl, rfl, rfl, hk'.1, hk'.2, by simp [hk]⟩
      · exact .inl ⟨false, by simp [hk], by simp⟩

/-! ### Taking an error (R176) -/

/-- `fail` and `succeed` clear the transaction and hand the result to the arbiter. -/
theorem fail_eq (e : Err) (s : State) :
    fail e s = deliver (.err e) { s with state := s.state.enteredFrom, active := false, timer := 0 } := rfl

theorem succeed_eq (b : List Byte) (s : State) :
    succeed b s = deliver (.ok b) { s with state := s.state.ackState, active := false, timer := 0 } := rfl

/-- With no wrapper in progress, `fail` is R176 word for word. -/
theorem fail_transparent {e : Err} {s : State} (h : s.rActive = false) :
    fail e s = { s with state := s.state.enteredFrom, active := false, timer := 0 }.resolved (.err e) := by
  simp [fail, deliver, h]

theorem succeed_transparent {b : List Byte} {s : State} (h : s.rActive = false) :
    succeed b s = { s with state := s.state.ackState, active := false, timer := 0 }.resolved (.ok b) := by
  simp [succeed, deliver, h]

/-- `entered_from` of an operation's waiting state is the state the operation is allowed from (R14). -/
@[simp] theorem enteredFrom_waitingState (op : CtrlOp) : op.waitingState.enteredFrom = op.allowedFrom := by
  cases op <;> rfl

@[simp] theorem waiting_waitingState (op : CtrlOp) : op.waitingState.waiting = true := by
  cases op <;> rfl

@[simp] theorem waiting_allowedFrom (op : CtrlOp) : op.allowedFrom.waiting = false := by
  cases op <;> rfl

@[simp] theorem waiting_enteredFrom (h : HandlerState) : h.enteredFrom.waiting = false := by
  cases h <;> rfl

@[simp] theorem waiting_ackState (h : HandlerState) : h.ackState.waiting = false := by
  cases h <;> rfl

/-! ### An inbound frame (R170) -/

theorem rxStep_absent {f : Frame} {s : State} (h : s.cfg.hasController = false) : rxStep f s = s.ignored := by
  simp [rxStep, h]

/-- What an inbound frame can do: fail the transaction, be a violation, extend an upload, or acknowledge (R170). -/
theorem rxStep_cases (f : Frame) {s : State} (hc : s.cfg.hasController = true) :
    (∃ e, rxError s f = some e ∧ s.active = true ∧ rxStep f s = fail e s.quiet) ∨
    (∃ e, rxError s f = some e ∧ s.active = false ∧ rxStep f s = s.quiet.violation e) ∨
    (rxError s f = none ∧ s.state ≠ .uploading ∧ rxStep f s = succeed [] s.quiet) ∨
    (rxError s f = none ∧ s.state = .uploading ∧ rxStep f s = uploadReply f s.quiet) := by
  unfold rxStep
  rw [if_pos hc]
  cases h : rxError s f with
  | some e => cases ha : s.active <;> simp [rejectFrame, ha]
  | none => by_cases hu : s.state = .uploading <;> simp [acknowledge, hu]

/-- The matching acknowledge reply while uploading: the last one completes the transaction, any other extends the buffer
and re-arms the timer (R174). -/
theorem uploadReply_cases (f : Frame) (s : State) :
    ∃ buf, buf = s.upBuf ++ (f.data.drop 3).take (min 5 (s.upN.toNat - s.upBuf.length)) ∧
      ((buf.length = s.upN.toNat ∧ uploadReply f s = succeed buf { s with upBuf := buf }) ∨
        (buf.length ≠ s.upN.toNat ∧
          uploadReply f s = { s with upBuf := buf, timer := s.cfg.timeout.get .upload })) := by
  refine ⟨_, rfl, ?_⟩
  by_cases h : (s.upBuf ++ (f.data.drop 3).take (min 5 (s.upN.toNat - s.upBuf.length))).length = s.upN.toNat
  · exact .inl ⟨h, if_pos h⟩
  · exact .inr ⟨h, if_neg h⟩

/-- The matching acknowledge reply passes all seven tests (R170). -/
theorem rxError_eq_none_iff (s : State) (f : Frame) :
    rxError s f = none ↔
      f.len = frameLen ∧ f.ext = true ∧ f.id = s.cfg.idReply ∧ f.byte 0 = replyMarker ∧ s.active = true ∧
        counterOk s (f.byte 2) = true ∧ f.byte 1 = s.cfg.status.get .acknowledge := by
  unfold rxError frameError
  by_cases h1 : f.len = frameLen <;> by_cases h2 : f.ext = true <;> by_cases h3 : f.id = s.cfg.idReply <;>
    by_cases h4 : f.byte 0 = replyMarker <;> by_cases h5 : s.active = true <;>
    by_cases h6 : counterOk s (f.byte 2) = true <;>
    by_cases h7 : f.byte 1 = s.cfg.status.get .acknowledge <;> simp [h1, h2, h3, h4, h5, h6, h7]

/-! ### The timer (R178, R179) -/

theorem tickStep_cases (s : State) :
    (s.cfg.hasController = true ∧ s.active = true ∧ s.timer ≤ 1 ∧
      tickStep s = fail .requestTimeout { s.quiet with timer := s.timer - 1 }) ∨
    (s.cfg.hasController = true ∧ s.active = true ∧ 1 < s.timer ∧ tickStep s = { s.quiet with timer := s.timer - 1 }) ∨
    ((s.cfg.hasController = false ∨ s.active = false) ∧ tickStep s = s.quiet) := by
  unfold tickStep
  cases hc : s.cfg.hasController
  · exact .inr (.inr ⟨.inl rfl, by simp [State.ignored]⟩)
  · cases ha : s.active
    · exact .inr (.inr ⟨.inr rfl, by simp⟩)
    · by_cases ht : s.timer ≤ 1
      · exact .inl ⟨rfl, rfl, ht, by simp [show s.timer - 1 = 0 by omega]⟩
      · exact .inr (.inl ⟨rfl, rfl, by omega, by simp [show ¬ s.timer - 1 = 0 by omega]⟩)

/-! ### The step -/

theorem step_no_event {s : State} (h : s.events = []) : step s = .next s.quiet := by
  simp [step, fetch, h]

theorem step_other {s : State} {e : Event} {rest : List Event} {r : DecodeError} (h : s.events = e :: rest)
    (hd : decode s.cfg e = .error r) : step s = .next (otherEvent e { s with events := rest }) := by
  simp [step, fetch, h, hd]

end Sys2Proof.Machine
end

