-- ==== Sys2Proof/Laws/PerInstr.lean ====
section
/-!
SUPPORT. Per-instruction statements, one lemma for each constructor of Instr.
-/

namespace Sys2Proof.Laws

/-- The 18 selectors of R90's table. -/
def selectors : List Byte :=
  [0x00, 0x01, 0x02, 0x03, 0x10, 0x11, 0x12, 0x20, 0x21, 0x22, 0x23, 0x24, 0x25, 0x26, 0x27, 0x28, 0x2F, 0x30]

/-- An event of the form that a row of the opcode table has: a selector of R90's table at the operation port, or a frame
of 8 data bytes at the RX port (R60). -/
def isRowEvent : Event → Bool
  | .op sel _ => selectors.contains sel
  | .rx f => f.data.length == 8
  | .tick => false
  | .reset => false

namespace EncodedEvent

/-- Under every configuration an instruction is presented by an event of the form of its row. -/
def Statement (i : Instr) : Prop := ∀ c : Config, isRowEvent (encode c i) = true

theorem wireConnect (id : CanId) (ext : Bool) (ctr station : Byte) (pad : BitVec 40) :
    Statement (.wireConnect id ext ctr station pad) := fun _ => rfl

theorem wireSetMta (id : CanId) (ext : Bool) (ctr reserved extension : Byte) (address : Word32) :
    Statement (.wireSetMta id ext ctr reserved extension address) := fun _ => rfl

theorem wireDownload (id : CanId) (ext : Bool) (ctr length : Byte) (data : BitVec 40) :
    Statement (.wireDownload id ext ctr length data) := fun _ => rfl

theorem wireUpload (id : CanId) (ext : Bool) (ctr count : Byte) (pad : BitVec 40) :
    Statement (.wireUpload id ext ctr count pad) := fun _ => rfl

theorem wireDisconnect (id : CanId) (ext : Bool) (ctr : Byte) (pad : BitVec 48) :
    Statement (.wireDisconnect id ext ctr pad) := fun _ => rfl

theorem wireBuildChecksum (id : CanId) (ext : Bool) (ctr : Byte) (length : Word32) (checksum : Half) :
    Statement (.wireBuildChecksum id ext ctr length checksum) := fun _ => rfl

theorem wireClearMemory (id : CanId) (ext : Bool) (ctr : Byte) (length : Word32) (pad : Half) :
    Statement (.wireClearMemory id ext ctr length pad) := fun _ => rfl

theorem wireUnlock (id : CanId) (ext : Bool) (ctr lead : Byte) (password : Half) (pad : BitVec 24) :
    Statement (.wireUnlock id ext ctr lead password pad) := fun _ => rfl

theorem wireActionService (id : CanId) (ext : Bool) (ctr : Byte) (payload : BitVec 48) :
    Statement (.wireActionService id ext ctr payload) := fun _ => rfl

theorem wireDownload6 (id : CanId) (ext : Bool) (ctr : Byte) (data : BitVec 48) :
    Statement (.wireDownload6 id ext ctr data) := fun _ => rfl

theorem wireReply (id : CanId) (ext : Bool) (status ctr : Byte) (payload : BitVec 40) :
    Statement (.wireReply id ext status ctr payload) := fun _ => rfl

theorem crcSeed (mask : BitVec 2) :
    Statement (.crcSeed mask) := fun _ => rfl

theorem crcLoad (lane : Lane) (v : Half) :
    Statement (.crcLoad lane v) := fun _ => rfl

theorem crcUpdate (mask : BitVec 2) (b : Byte) :
    Statement (.crcUpdate mask b) := fun _ => rfl

theorem crcRead (lane : Lane) :
    Statement (.crcRead lane) := fun _ => rfl

theorem encodeCommand (code : CommandCode) (ctr : Byte) (p : List Byte) :
    Statement (.encodeCommand code ctr p) := fun _ => rfl

theorem encodeReply (status ctr : Byte) (p : List Byte) :
    Statement (.encodeReply status ctr p) := fun _ => rfl

theorem decodeFrame (f : Frame) :
    Statement (.decodeFrame f) := fun _ => rfl

theorem connect (station : Byte) :
    Statement (.connect station) := fun _ => rfl

theorem disconnect :
    Statement (.disconnect) := fun _ => rfl

theorem setMta (e : AddressExtension) (a : Word32) :
    Statement (.setMta e a) := fun _ => rfl

theorem unlock (p : Password) :
    Statement (.unlock p) := fun _ => rfl

theorem download (d : List Byte) :
    Statement (.download d) := fun _ => rfl

theorem download6 (d : List Byte) :
    Statement (.download6 d) := fun _ => rfl

theorem upload (n : Byte) (block : Bool) :
    Statement (.upload n block) := fun _ => rfl

theorem buildChecksum (k : Half) (len : Word32) :
    Statement (.buildChecksum k len) := fun _ => rfl

theorem clearMemory :
    Statement (.clearMemory) := fun _ => rfl

theorem cancel :
    Statement (.cancel) := fun _ => rfl

theorem retry (op : CtrlOp) (times : Byte) (accept : KindSet) :
    Statement (.retry op times accept) := fun _ => rfl

end EncodedEvent

end Sys2Proof.Laws
end

