-- ==== Sys2Proof/Laws/Steps.lean ====
section
/-!
SUPPORT. Runs of several steps: the empty run, a first step and the rest, and a run cut in two. They are proved of every
machine of the host's interface first, where the types are its own.
-/

namespace Sys2Proof.Machine

theorem core_run_succ (M : Host.Core) {n : Nat} {s t : M.State} (h : M.step s = .next t) :
    M.run (n + 1) s = M.run n t := by
  rw [Host.Core.run.eq_def]
  simp only [h]

theorem core_run_add (M : Host.Core) {m n : Nat} {s t : M.State} (h : M.run m s = .next t) :
    M.run (m + n) s = M.run n t := by
  induction m generalizing s with
  | zero =>
    rw [Host.Core.run.eq_def] at h
    cases h
    rw [Nat.zero_add]
  | succ m ih =>
    rw [Nat.succ_add, Host.Core.run.eq_def]
    rw [Host.Core.run.eq_def] at h
    cases hu : M.step s with
    | next u => simp only [hu] at h ⊢; exact ih h
    | fault r => simp only [hu] at h; cases h
    | refused r => simp only [hu] at h; cases h

theorem steps_zero (s : State) : steps 0 s = .next s := rfl

theorem steps_succ {n : Nat} {s t : State} (h : step s = .next t) : steps (n + 1) s = steps n t :=
  core_run_succ Sys2Proof.core h

theorem steps_one {s t : State} (h : step s = .next t) : steps 1 s = .next t :=
  steps_succ (n := 0) h

theorem steps_add {m n : Nat} {s t : State} (h : steps m s = .next t) : steps (m + n) s = steps n t :=
  core_run_add Sys2Proof.core h

end Sys2Proof.Machine
end

