-- ==== Sys2Proof/Tests/Slice0.lean ====
section
/-!
SUPPORT. The model's own tests. Expected values come from the spec: the vectors V1 to V55 and the programs P1 to P6 of
95_test_vectors.md, and the examples of 40 to 44. Then the witnesses: for each statement with hypotheses a concrete state
and operands that meet them.
-/

open Sys2Proof Sys2Proof.Machine

namespace Sys2Proof.Tests

/-! ### Helpers -/

/-- The reset state put into a controller state with its counters and timer: `<state> / <waiting> / send / last / timer`
as 95_test_vectors.md writes it. -/
def start (h : HandlerState) (send last : Byte) (timer : Nat) : State :=
  { State.reset with state := h, active := h.waiting, sendCtr := send, lastCtr := last, timer := timer }

/-- The start state of V30 to V34. -/
def ready : State := start .connected 0x07 0x06 0

/-- The next state of an outcome. -/
def nextOf : Host.Outcome State Fault Refusal → Option State
  | .next t => some t
  | .fault _ => none
  | .refused _ => none

/-- The state after an instruction. -/
def after (i : Instr) (s : State) : State := (nextOf (exec i s)).getD State.reset

/-- The state after one event. -/
def afterEvent (e : Event) (s : State) : State := (nextOf (step { s with events := [e] })).getD State.reset

/-- An inbound reply frame of 8 data bytes. -/
def reply (status ctr p0 p1 p2 p3 p4 : Byte) : Event :=
  .rx { id := 0x18FF0002, ext := true, data := [0xFF, status, ctr, p0, p1, p2, p3, p4] }

/-- The data bytes on the TX port. -/
def sent (t : State) : Option (List Byte) := t.out.tx.map Frame.data

/-- `state / active / send_ctr / last_ctr / timer`. -/
def summary (t : State) : HandlerState × Bool × Byte × Byte × Nat := (t.state, t.active, t.sendCtr, t.lastCtr, t.timer)

/-- TESTCFG without the optional units. -/
def bareConfig : Config := { Config.test with hasController := false, hasRetry := false }

/-- TESTCFG with one further Password member. -/
def twoPasswords : Config := { Config.test with passwordOthers := [0xBEEF] }

/-- A retry wrapper around `SET_MTA(flash_memory, 0x100)` in progress (V54 after its first frame), with `left` attempts
left for unexpected messages and timeouts, and `timer` ticks to go. -/
def wrapped (left : Byte) (timer : Nat) : State :=
  { start .settingMta 0x02 0x01 timer with
    rActive := true, rOp := .setMta .flashMemory 0x100, rLeft := left
    rAccept := { unexpectedMessage := true, requestTimeout := true } }

/-! ### WellFormed refuses an ill-formed term for each of its checks -/

theorem test_wellFormed_reply_needs_controller :
    (Instr.wireReply 0 true 0 0 0).wellFormed bareConfig = false := by decide

theorem test_wellFormed_command_frame_needs_controller :
    (Instr.wireConnect 0 true 0 0 0).wellFormed bareConfig = false := by decide

theorem test_wellFormed_operation_needs_controller : (Instr.connect 0).wellFormed bareConfig = false := by decide

theorem test_wellFormed_cancel_needs_controller : Instr.cancel.wellFormed bareConfig = false := by decide

theorem test_wellFormed_retry_needs_arbiter :
    (Instr.retry (.connect 0) 1 {}).wellFormed { Config.test with hasRetry := false } = false := by decide

theorem test_wellFormed_unlock_needs_member : (Instr.unlock (.other 0)).wellFormed Config.test = false := by decide

theorem test_wellFormed_unlock_last_member :
    (Instr.unlock (.other 0)).wellFormed twoPasswords = true ∧
      (Instr.unlock (.other 1)).wellFormed twoPasswords = false := by decide

theorem test_wellFormed_retry_checks_its_operation :
    (Instr.retry (.unlock (.other 0)) 1 {}).wellFormed Config.test = false := by decide

/-! ### Decoding: words written out from the spec's encodings -/

/-- V20. -/
theorem test_decode_wire_connect :
    decodeTableWord 64 0x012A050000000000 = some (.wireConnect 0x18FF0001 true 0x2A 0x05 0) := by decide

/-- R71, V30. -/
theorem test_decode_wire_set_mta :
    decodeTableWord 64 0x0207000300012000 = some (.wireSetMta 0x18FF0001 true 7 0 3 0x00012000) := by decide

/-- R73, V31. -/
theorem test_decode_wire_download :
    decodeTableWord 64 0x0307042211443300 = some (.wireDownload 0x18FF0001 true 7 4 0x2211443300) := by decide

/-- R75, V33. -/
theorem test_decode_wire_upload :
    decodeTableWord 64 0x04070C0000000000 = some (.wireUpload 0x18FF0001 true 7 0x0C 0) := by decide

/-- R70, V22. -/
theorem test_decode_wire_disconnect :
    decodeTableWord 64 0x07FF000000000000 = some (.wireDisconnect 0x18FF0001 true 0xFF 0) := by decide

/-- R76, V30. -/
theorem test_decode_wire_build_checksum :
    decodeTableWord 64 0x0E0701020304BEEF =
      some (.wireBuildChecksum 0x18FF0001 true 7 0x01020304 0xBEEF) := by decide

/-- R77, V30. -/
theorem test_decode_wire_clear_memory :
    decodeTableWord 64 0x1007000000FF0000 = some (.wireClearMemory 0x18FF0001 true 7 0xFF 0) := by decide

/-- R72, V30. -/
theorem test_decode_wire_unlock :
    decodeTableWord 64 0x1307021234000000 = some (.wireUnlock 0x18FF0001 true 7 2 0x1234 0) := by decide

/-- R78, V23. -/
theorem test_decode_wire_action_service :
    decodeTableWord 64 0x2109DEAD00000000 = some (.wireActionService 0x18FF0001 true 9 0xDEAD00000000) := by decide

/-- R74, V32. -/
theorem test_decode_wire_download6 :
    decodeTableWord 64 0x2307020104030605 = some (.wireDownload6 0x18FF0001 true 7 0x020104030605) := by decide

/-- R63, V26. -/
theorem test_decode_wire_reply :
    decodeTableWord 64 0xFF0007A0A1A2A3A4 = some (.wireReply 0x18FF0002 true 0 7 0xA0A1A2A3A4) := by decide

/-- R83: no row begins with 0x55. -/
theorem test_decode_wire_unknown_code : decodeTableWord 64 0x5501020304050607 = none := by decide

/-- R60: 7 and 9 data bytes are no row. -/
theorem test_decode_frame_length :
    (decode Config.test (.rx { id := 0, ext := true, data := [0xFF, 0, 7, 0, 0, 0, 0] })).toOption = none ∧
      (decode Config.test (.rx { id := 0, ext := true, data := [0xFF, 0, 7, 0, 0, 0, 0, 0, 0] })).toOption = none := by
  decide

/-- R90, P1 step 7. -/
theorem test_decode_crc_seed :
    (decode Config.test (.op 0x00 [.mask 1])).toOption = some (.crcSeed 1) := by decide

/-- R90, P1 step 15. -/
theorem test_decode_crc_load :
    (decode Config.test (.op 0x01 [.lane 0, .half 0x30BA])).toOption = some (.crcLoad .zero 0x30BA) := by decide

/-- R90, P1 step 2. -/
theorem test_decode_crc_update :
    (decode Config.test (.op 0x02 [.mask 3, .byte 0x31])).toOption = some (.crcUpdate 3 0x31) := by decide

/-- R90, P1 step 14. -/
theorem test_decode_crc_read : (decode Config.test (.op 0x03 [.lane 1])).toOption = some (.crcRead .one) := by decide

/-- R90, V20. -/
theorem test_decode_encode_command :
    (decode Config.test (.op 0x10 [.code .connect, .byte 0x2A, .bytes [5]])).toOption =
      some (.encodeCommand .connect 0x2A [5]) := by decide

/-- R90, V25. -/
theorem test_decode_encode_reply :
    (decode Config.test (.op 0x11 [.byte 0x33, .byte 7, .bytes [1, 2]])).toOption =
      some (.encodeReply 0x33 7 [1, 2]) := by decide

/-- R90, V26. -/
theorem test_decode_decode :
    (decode Config.test (.op 0x12 [.frame { id := 0x123, ext := false, data := [1, 5] }])).toOption =
      some (.decodeFrame { id := 0x123, ext := false, data := [1, 5] }) := by decide

/-- R90, V30. -/
theorem test_decode_connect : (decode Config.test (.op 0x20 [.byte 0xFF])).toOption = some (.connect 0xFF) := by decide

/-- R90. -/
theorem test_decode_disconnect : (decode Config.test (.op 0x21 [])).toOption = some .disconnect := by decide

/-- R90, V30. -/
theorem test_decode_set_mta :
    (decode Config.test (.op 0x22 [.extension .eepromMemoryData, .word 0x12000])).toOption =
      some (.setMta .eepromMemoryData 0x12000) := by decide

/-- R90. -/
theorem test_decode_unlock :
    (decode Config.test (.op 0x23 [.password .dspFlash])).toOption = some (.unlock .dspFlash) := by decide

/-- R90, V31. -/
theorem test_decode_download :
    (decode Config.test (.op 0x24 [.bytes [0x11, 0x22]])).toOption = some (.download [0x11, 0x22]) := by decide

/-- R90, V32. -/
theorem test_decode_download6 :
    (decode Config.test (.op 0x25 [.bytes [1, 2, 3, 4, 5, 6]])).toOption = some (.download6 [1, 2, 3, 4, 5, 6]) := by
  decide

/-- R90, V33. -/
theorem test_decode_upload :
    (decode Config.test (.op 0x26 [.byte 12, .flag true])).toOption = some (.upload 12 true) := by decide

/-- R90, V30. -/
theorem test_decode_build_checksum :
    (decode Config.test (.op 0x27 [.half 0x1522, .word 0x10])).toOption = some (.buildChecksum 0x1522 0x10) := by decide

/-- R90. -/
theorem test_decode_clear_memory : (decode Config.test (.op 0x28 [])).toOption = some .clearMemory := by decide

/-- R90. -/
theorem test_decode_cancel : (decode Config.test (.op 0x2F [])).toOption = some .cancel := by decide

/-- R90, V54. -/
theorem test_decode_retry :
    (decode Config.test (.op 0x30
      [.operation (.connect 0), .byte 2, .kinds { requestTimeout := true }])).toOption =
      some (.retry (.connect 0) 2 { requestTimeout := true }) := by decide

/-- R90, R110: an unknown selector, a lane that does not exist, operands of another operation. -/
theorem test_decode_rejects :
    (decode Config.test (.op 0x29 [])).toOption = none ∧ (decode Config.test (.op 0x03 [.lane 2])).toOption = none ∧
      (decode Config.test (.op 0x21 [.byte 0])).toOption = none := by decide

/-- opcode_table.json: one word of each family runs as the first instruction after reset. -/
theorem test_table_word_runs_first :
    (nextOf (step (State.reset.withFetchWord 8 0x20))).map sent = some (some [1, 0, 0, 0, 0, 0, 0, 0]) ∧
      (nextOf (step (State.reset.withFetchWord 64 0xFF00070000000000))).map (·.out.violation) =
        some (some (.unexpectedMessage .noOutstanding)) := by decide

/-! ### One step of each instruction -/

/-- V13. -/
theorem test_crc_seed :
    let t := after (.crcSeed 2) { State.reset with crc0 := 0xE181, crc1 := 0xE181 }
    t.crc0 = 0xE181 ∧ t.crc1 = 0xFFFF := by decide

/-- R104's example. -/
theorem test_crc_seed_first :
    let t := after (.crcSeed 1) { State.reset with crc0 := 0x1234, crc1 := 0x5678 }
    t.crc0 = 0xFFFF ∧ t.crc1 = 0x5678 := by decide

/-- P1 step 15. -/
theorem test_crc_load :
    let t := after (.crcLoad .zero 0x30BA) { State.reset with crc0 := 0x90C5, crc1 := 0x4B37 }
    t.crc0 = 0x30BA ∧ t.crc1 = 0x4B37 := by decide

/-- P1 step 8: one byte into two different lanes. -/
theorem test_crc_update_both :
    let t := after (.crcUpdate 3 0x35) { State.reset with crc0 := 0xFFFF, crc1 := 0x30BA }
    t.crc0 = 0x577F ∧ t.crc1 = 0xA471 := by decide

/-- V13, V3. -/
theorem test_crc_update_one :
    let t := after (.crcUpdate 1 0x01) State.reset
    t.crc0 = 0x807E ∧ t.crc1 = 0xFFFF := by decide

/-- P1 step 14. -/
theorem test_crc_read :
    (after (.crcRead .one) { State.reset with crc0 := 0x90C5, crc1 := 0x4B37 }).out.respond = some (.value 0x4B37) := by
  decide

/-- V4: the corners of `crc_step`. -/
theorem test_crc_step_corners :
    crcStep 0x0000 0x80 = 0xA001 ∧ crcStep 0x0100 0x00 = 0x0001 ∧ crcStep 0x8000 0x00 = 0x0080 ∧
      crcStep 0xFFFF 0xFF = 0x00FF ∧ crcStep 0x1234 0x56 = 0xE993 := by decide

/-- V7: "123456789". -/
theorem test_crc16_check_value :
    crc16 [0x31, 0x32, 0x33, 0x34, 0x35, 0x36, 0x37, 0x38, 0x39] none = 0x4B37 := by decide +kernel

/-- V8: "56789" resumed from the value of "1234". -/
theorem test_crc16_resumed : crc16 [0x35, 0x36, 0x37, 0x38, 0x39] (some 0x30BA) = 0x4B37 := by decide +kernel

/-- V21. -/
theorem test_encode_command_full :
    (after (.encodeCommand .setMta 0 [0x00, 0x03, 0x00, 0x01, 0x20, 0x00]) State.reset).out.respond =
      some (.frame { id := 0x18FF0001, ext := true, data := [0x02, 0x00, 0x00, 0x03, 0x00, 0x01, 0x20, 0x00] }) := by
  decide

/-- V24. -/
theorem test_encode_command_too_long :
    (after (.encodeCommand .download 1 [1, 2, 3, 4, 5, 6, 7]) State.reset).out.respond =
      some (.err .payloadLength) := by decide

/-- V25. -/
theorem test_encode_reply :
    (after (.encodeReply 0x33 7 [1, 2, 3, 4, 5]) State.reset).out.respond =
      some (.frame { id := 0x18FF0002, ext := true, data := [0xFF, 0x33, 7, 1, 2, 3, 4, 5] }) := by decide

/-- V25. -/
theorem test_encode_reply_too_long :
    (after (.encodeReply 0 0 [1, 2, 3, 4, 5, 6]) State.reset).out.respond = some (.err .payloadLength) := by decide

/-- V26, second row. -/
theorem test_decode_a_reply :
    (after (.decodeFrame { id := 0x18FF0002, ext := true, data := [0xFF, 0x33, 0xFF, 0, 0, 0, 0, 0] })
      State.reset).out.respond =
      some (.packet (.reply 0x33 (some .accessDenied) 0xFF [0, 0, 0, 0, 0])) := by decide

/-- V26, seventh row: the identifier is not examined. -/
theorem test_decode_a_command :
    (after (.decodeFrame { id := 0x18FF0002, ext := true, data := [1, 5, 0, 0, 0, 0, 0, 0] })
      State.reset).out.respond =
      some (.packet (.command 1 (some .connect) 5 [0, 0, 0, 0, 0, 0])) := by decide

/-- V34: the counter wraps. -/
theorem test_connect_wraps :
    let t := after (.connect 1) (start .idle 0xFF 0xFE 0)
    sent t = some [0x01, 0xFF, 0x01, 0, 0, 0, 0, 0] ∧ summary t = (.connecting, true, 0x00, 0xFF, 4) := by decide

/-- P6 step 6. -/
theorem test_connect_refused : (after (.connect 5) ready).out = { respond := some (.err .stateViolation) } := by decide

/-- V30. -/
theorem test_disconnect :
    let t := after .disconnect ready
    sent t = some [0x07, 0x07, 0, 0, 0, 0, 0, 0] ∧ summary t = (.disconnecting, true, 0x08, 0x07, 4) := by decide

/-- P6 step 21, C6: busy is tested first. -/
theorem test_disconnect_busy :
    (after .disconnect (start .settingMta 0x05 0x04 4)).out = { respond := some (.err .handlerBusy) } := by decide

/-- V30. -/
theorem test_set_mta :
    let t := after (.setMta .eepromMemoryBootloader 0x01020304) ready
    sent t = some [0x02, 0x07, 0x00, 0x02, 0x01, 0x02, 0x03, 0x04] ∧ t.state = .settingMta := by decide

/-- V30. -/
theorem test_unlock :
    let t := after (.unlock .dspFlash) ready
    sent t = some [0x13, 0x07, 0x02, 0x12, 0x34, 0, 0, 0] ∧ t.state = .unlocking := by decide

/-- V31. -/
theorem test_download :
    let t := after (.download [0x11, 0x22, 0x33, 0x44]) ready
    sent t = some [0x03, 0x07, 0x04, 0x22, 0x11, 0x44, 0x33, 0x00] ∧ t.state = .downloading := by decide

/-- V35: state is tested before length. -/
theorem test_download_order :
    (after (.download [1, 2, 3]) State.reset).out = { respond := some (.err .stateViolation) } ∧
      (after (.download [1, 2, 3]) ready).out = { respond := some (.err .payloadLength) } := by decide

/-- V32. -/
theorem test_download6 :
    let t := after (.download6 [0xAA, 0xBB, 0xCC, 0xDD, 0xEE, 0xFF]) ready
    sent t = some [0x23, 0x07, 0xBB, 0xAA, 0xDD, 0xCC, 0xFF, 0xEE] ∧ t.state = .download6ing := by decide

/-- V35. -/
theorem test_download6_length :
    (after (.download6 [1, 2, 3, 4, 5]) ready).out = { respond := some (.err .payloadLength) } := by decide

/-- V33. -/
theorem test_upload :
    let t := after (.upload 12 true) { ready with upBuf := [1, 2] }
    sent t = some [0x04, 0x07, 0x0C, 0, 0, 0, 0, 0] ∧ t.state = .uploading ∧ t.upN = 12 ∧ t.upBuf = [] := by decide

/-- V35. -/
theorem test_upload_needs_block :
    (after (.upload 6 false) ready).out = { respond := some (.err .payloadLength) } ∧
      sent (after (.upload 5 false) ready) = some [0x04, 0x07, 0x05, 0, 0, 0, 0, 0] := by decide

/-- V30. -/
theorem test_build_checksum :
    let t := after (.buildChecksum 0x1522 0x10) ready
    sent t = some [0x0E, 0x07, 0x00, 0x00, 0x00, 0x10, 0x15, 0x22] ∧ t.state = .buildingChecksum := by decide

/-- V30. -/
theorem test_clear_memory :
    let t := after .clearMemory ready
    sent t = some [0x10, 0x07, 0x00, 0x00, 0x00, 0xFF, 0x00, 0x00] ∧ t.state = .clearingMemory := by decide

/-- V48. -/
theorem test_cancel :
    let t := after .cancel (start .downloading 0x08 0x07 2)
    t.out = { respond := some .accepted, resolve := some (.err .cancelled) } ∧
      summary t = (.connected, false, 0x08, 0x07, 0) := by decide

/-- V55: a wrapper is abandoned. -/
theorem test_cancel_wrapper :
    let t := after .cancel { wrapped 1 4 with rAccept := { cancelled := true } }
    t.rActive = false ∧ t.out.resolve = some (.err .cancelled) ∧ t.out.tx = none := by decide

/-- V52. -/
theorem test_retry_refused :
    let t := after (.retry .disconnect 2 { stateViolation := true }) State.reset
    t.out = { respond := some (.err .stateViolation) } ∧ t.rActive = false ∧ t.rLeft = 0 ∧ t.sendCtr = 0 := by decide

/-- V54, the first frame. -/
theorem test_retry :
    let t := after (.retry (.setMta .flashMemory 0x100) 1 { unexpectedMessage := true }) (start .connected 1 0 0)
    sent t = some [0x02, 0x01, 0x00, 0x00, 0x00, 0x00, 0x01, 0x00] ∧ t.rActive = true ∧ t.rLeft = 1 ∧
      t.out.respond = some .accepted := by decide

/-- V41, test 4, with every other command row of the table (R170). -/
theorem test_wire_commands_are_no_replies :
    let s := start .settingMta 0x08 0x07 3
    let e : Outputs := { resolve := some (.err (.unexpectedMessage .notAReply)) }
    (after (.wireSetMta 0x18FF0002 true 7 0 0 0) s).out = e ∧ (after (.wireDownload 0x18FF0002 true 7 0 0) s).out = e ∧
      (after (.wireUpload 0x18FF0002 true 7 0 0) s).out = e ∧
      (after (.wireDisconnect 0x18FF0002 true 7 0) s).out = e ∧
      (after (.wireBuildChecksum 0x18FF0002 true 7 0 0) s).out = e ∧
      (after (.wireClearMemory 0x18FF0002 true 7 0 0) s).out = e ∧
      (after (.wireUnlock 0x18FF0002 true 7 0 0 0) s).out = e ∧
      (after (.wireActionService 0x18FF0002 true 7 0) s).out = e ∧
      (after (.wireDownload6 0x18FF0002 true 7 0) s).out = e := by decide

/-- P6 step 24. -/
theorem test_wire_connect_is_no_reply :
    let t := after (.wireConnect 0x18FF0002 true 5 0 0) (start .unlocking 0x06 0x05 4)
    t.out = { resolve := some (.err (.unexpectedMessage .notAReply)) } ∧
      summary t = (.connected, false, 0x06, 0x05, 0) := by decide

/-- V41, test 7. -/
theorem test_reply_access_denied :
    let t := afterEvent (reply 0x33 7 0 0 0 0 0) (start .settingMta 0x08 0x07 3)
    t.out =
      { resolve := some (.err (.unexpectedMessage
          (.nonAcknowledge 0x33 (some .accessDenied) (.known .c3) true))) } ∧
      summary t = (.connected, false, 0x08, 0x07, 0) := by decide

/-- V41, test 6 before test 7. -/
theorem test_reply_wrong_counter :
    (afterEvent (reply 0x33 6 0 0 0 0 0) (start .settingMta 0x08 0x07 3)).out =
      { resolve := some (.err (.unexpectedMessage .wrongCounter)) } := by decide

/-! ### Events -/

/-- V44: while connecting every counter is accepted; V45: elsewhere none but the last. -/
theorem test_counter_tolerance :
    summary (afterEvent (reply 0 0xFF 0 0 0 0 0) (start .connecting 3 2 4)) = (.connected, false, 3, 2, 0) ∧
      (afterEvent (reply 0 3 0 0 0 0 0) (start .unlocking 3 2 4)).out =
        { resolve := some (.err (.unexpectedMessage .wrongCounter)) } := by decide

/-- V46: the last reply of an upload. -/
theorem test_upload_last_reply :
    let t := afterEvent (reply 0 7 6 7 0xEE 0xEE 0xEE)
      { start .uploading 8 7 1 with upN := 7, upBuf := [1, 2, 3, 4, 5] }
    t.out = { resolve := some (.ok [1, 2, 3, 4, 5, 6, 7]) } ∧ summary t = (.connected, false, 8, 7, 0) := by decide

/-- V46: a partial reply re-arms the timer. -/
theorem test_upload_partial_reply :
    let t := afterEvent (reply 0 7 1 2 3 4 5) { start .uploading 8 7 1 with upN := 7 }
    t.out = {} ∧ t.upBuf = [1, 2, 3, 4, 5] ∧ summary t = (.uploading, true, 8, 7, 4) := by decide

/-- V42: nothing outstanding. -/
theorem test_reply_violation :
    (afterEvent (reply 0x33 7 0 0 0 0 0) (start .connected 8 7 0)).out =
      { violation := some (.unexpectedMessage .noOutstanding) } := by decide

/-- V41, tests 1 and 2: frames that are no rows. -/
theorem test_frame_tests :
    (afterEvent (.rx { id := 0x18FF0002, ext := true, data := [0xFF, 0, 7, 0, 0, 0, 0] })
      (start .settingMta 8 7 3)).out = { resolve := some (.err .messageLength) } ∧
      (afterEvent (.rx { id := 0x18FF0002, ext := false, data := [0xFF, 0, 7, 0, 0, 0, 0, 0] })
        (start .settingMta 8 7 3)).out = { resolve := some (.err .identifierType) } := by decide

/-- V47: the last tick, and the one before it. -/
theorem test_tick :
    (afterEvent .tick (start .connecting 1 0 2)).timer = 1 ∧
      (afterEvent .tick (start .connecting 1 0 1)).out = { resolve := some (.err .requestTimeout) } ∧
      (afterEvent .tick (start .connecting 1 0 1)).state = .idle := by decide

/-- P4a step 5: the timeout and the re-issue in one step, with no result for the host. -/
theorem test_tick_reissues :
    let t := afterEvent .tick { start .connecting 1 0 1 with
      rActive := true, rOp := .connect 0, rLeft := 2, rAccept := { requestTimeout := true } }
    sent t = some [0x01, 0x01, 0, 0, 0, 0, 0, 0] ∧ t.out.resolve = none ∧ t.out.respond = none ∧ t.rLeft = 1 ∧
      summary t = (.connecting, true, 2, 1, 4) := by decide

/-- R260. -/
theorem test_reset_event :
    let t := afterEvent .reset { wrapped 1 4 with crc0 := 0x1234 }
    summary t = (.idle, false, 0, 0, 0) ∧ t.crc0 = 0xFFFF ∧ t.rActive = false ∧ t.out = {} := by decide

/-! ### Witnesses: the hypotheses of each statement can be met, each clause at a boundary of its range -/

/-- The reset state with the controller connected, and one event to come. -/
def connectedWith (e : Event) : State := { start .connected 0 0 0 with events := [e] }

/-- For `EncodedInstructionDecodesToItself`, and the configuration premise of the other statements. -/
theorem test_witness_valid_configuration : Config.test.Valid ∧ bareConfig.Valid ∧ twoPasswords.Valid := by decide

theorem test_witness_DecodedEventIsItsEncoding :
    decode Config.test (.op 0x2F []) = .ok .cancel ∧ decode Config.test (reply 0 7 1 2 3 4 5) =
      .ok (.wireReply 0x18FF0002 true 0 7 0x0102030405) := ⟨rfl, rfl⟩

theorem test_witness_OperationPortSelectsByOpsel :
    (connectedWith (.op 0x04 [])).events = [.op 0x04 []] ∧
      (0x04#8).toNat ∉ [0x00, 0x01, 0x02, 0x03, 0x10, 0x11, 0x12, 0x20, 0x21, 0x22, 0x23, 0x24, 0x25, 0x26, 0x27,
        0x28, 0x2F, 0x30] := by decide

theorem test_witness_AbsentLaneChangesNothing :
    2 ≤ 2 ∧ (connectedWith (.op 0x01 [.lane 2, .half 0])).events = [.op 0x01 [.lane 2, .half 0]] ∧
      (connectedWith (.op 0x03 [.lane 2])).events = [.op 0x03 [.lane 2]] := by decide

theorem test_witness_StepRunsDecodedInstruction :
    (connectedWith (.op 0x28 [])).events = [.op 0x28 []] ∧
      decode (connectedWith (.op 0x28 [])).cfg (.op 0x28 []) = .ok .clearMemory := ⟨rfl, rfl⟩

theorem test_witness_AbsentUnitsDoNothing :
    Instr.cancel.wellFormed { State.reset with cfg := bareConfig }.cfg = false ∧
      (Instr.unlock (.other 0)).wellFormed State.reset.cfg = false := by decide

theorem test_witness_LaneWritesOutputNothing :
    isCrcOperation (.crcSeed 3) = true ∧ (∀ lane, Instr.crcSeed 3 ≠ .crcRead lane) ∧
      ∃ t, exec (.crcSeed 3) State.reset = .next t := ⟨rfl, (by intro lane h; cases h), _, rfl⟩

theorem test_witness_CrcOperationsComputeCrc16 :
    ∃ s : State, s.events =
      (startCrc .one (some 0x30BA) ::
        ([0x35#8].map (Instr.crcUpdate (laneMask .one)) ++ [Instr.crcRead .one])).map (encode s.cfg) ++ [.tick] :=
  ⟨{ State.reset with events := [.op 0x01 [.lane 1, .half 0x30BA], .op 0x02 [.mask 2, .byte 0x35], .op 0x03 [.lane 1],
      .tick] }, rfl⟩

theorem test_witness_LanesAreIndependentOfTheRest :
    (connectedWith .tick).events = [.tick] ∧ Event.tick ≠ .reset ∧
      ∀ i, decode (connectedWith .tick).cfg .tick = .ok i → isCrcOperation i = false :=
  ⟨rfl, (by intro h; cases h), (by intro i h; cases h)⟩

theorem test_witness_EncodeCommandBuildsFrame :
    ([1, 2, 3, 4, 5, 6] : List Byte).length ≤ 6 ∧ 6 < ([1, 2, 3, 4, 5, 6, 7] : List Byte).length := by decide

theorem test_witness_EncodeReplyBuildsFrame :
    ([1, 2, 3, 4, 5] : List Byte).length ≤ 5 ∧ 5 < ([1, 2, 3, 4, 5, 6] : List Byte).length := by decide

theorem test_witness_DecodeClassifiesByFirstByte :
    (({ id := 0, ext := true, data := [1, 2, 3, 4, 5, 6, 7] } : Frame).data.length ≠ 8) ∧
      (({ id := 0, ext := true, data := [1, 2, 3, 4, 5, 6, 7, 8, 9] } : Frame).data.length ≠ 8) ∧
      (({ id := 0, ext := false, data := [1, 2, 3, 4, 5, 6, 7, 8] } : Frame).data.length = 8) ∧
      (0xFE#8 ≠ 0xFF#8) := by decide

/-- Law 3 of R128, its two halves: a frame and what it decodes to. -/
theorem test_witness_CodecRoundTrips :
    let f : Frame := { id := 0x18FF0001, ext := true, data := [0x13, 0x10, 2, 0x12, 0x34, 0, 0, 0] }
    let g : Frame := { id := 0x18FF0002, ext := true, data := [0xFF, 0x10, 3, 0xAA, 0, 0, 0, 0] }
    State.reset.cfg.Valid ∧ f.id = State.reset.cfg.idHost ∧ f.data[0]? = some 0x13 ∧ 0x13#8 ≠ 0xFF ∧
      exec (.decodeFrame f) State.reset =
        .next (State.reset.afterResponse (.packet (.command 0x13 (some .unlock) 0x10 [2, 0x12, 0x34, 0, 0, 0]))) ∧
      g.id = State.reset.cfg.idReply ∧ g.data[0]? = some 0xFF ∧
      exec (.decodeFrame g) State.reset =
        .next (State.reset.afterResponse (.packet (.reply 0x10 (some .processorBusy) 3 [0xAA, 0, 0, 0, 0]))) :=
  ⟨by decide, rfl, rfl, by decide, rfl, rfl, rfl, rfl⟩

theorem test_witness_SwapPairsExchangesPairs :
    ([1, 2] : List Byte).length % 2 = 0 ∧ 2 * 0 + 1 < ([1, 2] : List Byte).length := by decide

/-- Each of the three tests of R140, the last two at lengths 5 (odd) and 6 (too long). -/
theorem test_witness_OperationsAreTestedInOrder :
    let busy : State := start .settingMta 5 4 4
    (busy.cfg.hasController = true ∧ (CtrlOp.connect 0).wellFormed busy.cfg = true ∧ busy.active = true) ∧
    (ready.cfg.hasController = true ∧ (CtrlOp.connect 0).wellFormed ready.cfg = true ∧ ready.active = false ∧
      ready.state ≠ (CtrlOp.connect 0).allowedFrom) ∧
    ((CtrlOp.download [1, 2, 3, 4, 5]).wellFormed ready.cfg = true ∧ ready.state = (CtrlOp.download []).allowedFrom ∧
      (CtrlOp.download [1, 2, 3, 4, 5]).contractHolds = false ∧
      (CtrlOp.download [1, 2, 3, 4, 5, 6]).contractHolds = false) := by decide

/-- The hypotheses of the nine statements of an accepted operation: `idle` for `CONNECT`, `connected` for the others. -/
theorem test_witness_operations_are_accepted :
    State.reset.cfg.hasController = true ∧ State.reset.active = false ∧ State.reset.state = .idle ∧
      ready.cfg.hasController = true ∧ ready.active = false ∧ ready.state = .connected := by decide

theorem test_witness_UnlockIssuesItsCommand :
    let s : State := { ready with cfg := twoPasswords }
    s.cfg.hasController = true ∧ s.active = false ∧ s.state = .connected ∧ s.cfg.passwordDspFlash = 0x1234 ∧
      s.cfg.passwordOthers[0]? = some 0xBEEF := by decide

theorem test_witness_DownloadIssuesItsCommand :
    (([1, 2, 3, 4, 5] : List Byte).length % 2 = 1 ∧ 5 < ([1, 2, 3, 4, 5, 6] : List Byte).length) := by decide

theorem test_witness_Download6IssuesItsCommand :
    ([1, 2, 3, 4, 5] : List Byte).length ≠ 6 ∧ ([1, 2, 3, 4, 5, 6, 7] : List Byte).length ≠ 6 := by decide

theorem test_witness_UploadIssuesItsCommand :
    (5#8).toNat ≤ 5 ∧ 5 < (6#8).toNat ∧ (true = true ∨ (255#8).toNat ≤ 5) := by decide

theorem test_witness_TransmittedFramesAreTableRows :
    ready.cfg.Valid ∧ ∃ t f, exec (CtrlOp.download [0x11, 0x22]).toInstr ready = .next t ∧ t.out.tx = some f :=
  ⟨by decide, _, _, rfl, rfl⟩

theorem test_witness_CancelEndsTheTransaction :
    State.reset.cfg.hasController = true ∧ (start .connecting 1 0 4).active = true ∧ State.reset.active = false := by
  decide

theorem test_witness_CommandFramesAreRejected :
    ready.cfg.hasController = true ∧ 0xFF#8 ∉ ready.cfg.codes ∧ ready.rActive = false := by decide

theorem test_witness_AcknowledgeReplyCompletes :
    (start .unlocking 3 2 4).MatchingAck 0 2 ∧ (start .unlocking 3 2 4).state ≠ .uploading ∧
      (start .connecting 3 2 4).MatchingAck 0 0xFF := by decide

/-- Both outcomes: the reply that completes seven bytes, and the one that does not. -/
theorem test_witness_UploadReplyAccumulates :
    let s : State := { start .uploading 8 7 4 with upN := 7 }
    let t : State := { s with upBuf := [1, 2, 3, 4, 5] }
    s.MatchingAck 0 7 ∧ s.state = .uploading ∧
      (s.upBuf ++ (be40 0).take (min 5 (s.upN.toNat - s.upBuf.length))).length ≠ s.upN.toNat ∧
      t.MatchingAck 0 7 ∧ t.state = .uploading ∧
      (t.upBuf ++ (be40 0).take (min 5 (t.upN.toNat - t.upBuf.length))).length = t.upN.toNat := by decide

/-- The four clauses: a frame rejected with a transaction outstanding and without, and one that passes every test in
`connecting` and in `uploading`. -/
theorem test_witness_InboundFramesTakeTheSevenTests :
    let f : Frame := { id := 0x18FF0002, ext := true, data := [0xFF, 0, 2, 1, 2, 3, 4, 5] }
    let g : Frame := { id := 0x18FF0002, ext := true, data := [0xFF, 0, 2, 1, 2, 3, 4] }
    let a : State := { start .unlocking 3 2 4 with events := [.rx g] }
    let b : State := { ready with events := [.rx f] }
    let c : State := { start .connecting 3 2 4 with events := [.rx f] }
    let d : State := { start .uploading 3 2 4 with events := [.rx f] }
    (a.cfg.hasController = true ∧ a.rActive = false ∧ a.events = [.rx g] ∧ rxTests a g = some .messageLength ∧
      a.active = true) ∧
    (b.cfg.hasController = true ∧ b.rActive = false ∧ b.events = [.rx f] ∧
      rxTests b f = some (.unexpectedMessage .noOutstanding) ∧ b.active = false) ∧
    (c.cfg.hasController = true ∧ c.rActive = false ∧ c.events = [.rx f] ∧ rxTests c f = none ∧
      c.state ≠ .uploading) ∧
    (d.cfg.hasController = true ∧ d.rActive = false ∧ d.events = [.rx f] ∧ rxTests d f = none ∧
      d.state = .uploading) := by decide

/-- No byte (one reply) and six bytes (two replies). -/
theorem test_witness_UploadTakesCeilingOfRepliesToComplete :
    ∃ s t : State, s.cfg.hasController = true ∧ s.active = true ∧ s.state = .uploading ∧ s.upBuf = [] ∧
      ([0x55#40] : List (BitVec 40)).length = max 1 ((s.upN.toNat + 4) / 5) ∧
      s.events = ([0x55#40] : List (BitVec 40)).map s.ackEvent ++ [] ∧
      t.cfg.hasController = true ∧ t.active = true ∧ t.state = .uploading ∧ t.upBuf = [] ∧
      ([0x55#40, 0x66#40] : List (BitVec 40)).length = max 1 ((t.upN.toNat + 4) / 5) ∧
      t.events = ([0x55#40, 0x66#40] : List (BitVec 40)).map t.ackEvent ++ [.tick] :=
  ⟨{ start .uploading 8 7 4 with events := [reply 0 7 0 0 0 0 0x55] },
    { start .uploading 8 7 4 with upN := 6, events := [reply 0 7 0 0 0 0 0x55, reply 0 7 0 0 0 0 0x66, .tick] },
    rfl, rfl, rfl, rfl, rfl, rfl, rfl, rfl, rfl, rfl, rfl, rfl⟩

theorem test_witness_TickCountsDownAndExpires :
    let s : State := { start .unlocking 3 2 2 with events := [.tick] }
    let t : State := { start .unlocking 3 2 1 with events := [.tick] }
    let u : State := connectedWith .tick
    (s.cfg.hasController = true ∧ s.events = [.tick] ∧ s.active = true ∧ 1 < s.timer) ∧
    (t.cfg.hasController = true ∧ t.events = [.tick] ∧ t.active = true ∧ t.timer = 1 ∧ t.rActive = false) ∧
    (u.cfg.hasController = true ∧ u.events = [.tick] ∧ u.active = false) := by decide

theorem test_witness_TimeoutFiresInItsLastTick :
    let s : State := { start .unlocking 3 2 2 with events := [.tick, .tick] }
    s.cfg.hasController = true ∧ s.active = true ∧ s.rActive = false ∧ 1 ≤ s.timer ∧
      s.events = List.replicate s.timer .tick ++ [] ∧ 0 < 1 ∧ 1 < s.timer := by decide

theorem test_witness_StatusBytesHaveCategories :
    Config.test.Valid ∧ Config.test.status.get .operationalFailure = 0x37 ∧
      ∀ m ∈ CommandStatus.all, Config.test.status.get m ≠ 0x38 := by decide

theorem test_witness_ResetEventWritesEveryRegister : (connectedWith .reset).events = [.reset] := by decide

/-- The three clauses: a wrapper in progress, an accepted attempt, a refused one. -/
theorem test_witness_RetryAttemptsItsOperation :
    let w : State := wrapped 1 4
    let s : State := State.reset
    (w.cfg.hasController = true ∧ w.cfg.hasRetry = true ∧ CtrlOp.disconnect.wellFormed w.cfg = true ∧
      w.rActive = true) ∧
    (s.cfg.hasController = true ∧ s.cfg.hasRetry = true ∧ (CtrlOp.connect 0).wellFormed s.cfg = true ∧
      s.rActive = false ∧ s.active = false ∧ s.state = (CtrlOp.connect 0).allowedFrom ∧
      (CtrlOp.connect 0).contractHolds = true) ∧
    (CtrlOp.disconnect.wellFormed s.cfg = true ∧
      exec CtrlOp.disconnect.toInstr s = .next (s.afterRefusal .stateViolation)) :=
  ⟨⟨rfl, rfl, rfl, rfl⟩, ⟨rfl, rfl, rfl, rfl, rfl, rfl, rfl⟩, ⟨rfl, rfl⟩⟩

/-- The four clauses: no result (a tick that is not the last), a success, an error with no attempt left, an error with
one attempt left. -/
theorem test_witness_ArbiterTakesEveryResult :
    let a : State := { wrapped 1 2 with events := [.tick] }
    let b : State := { wrapped 1 4 with events := [reply 0 1 0 0 0 0 0] }
    let c : State := { wrapped 0 1 with events := [.tick] }
    let d : State := { wrapped 1 1 with events := [.tick] }
    (a.Inv ∧ a.rActive = true ∧ ∃ t, step { a with rActive := false } = .next t ∧ t.out.resolve = none) ∧
    (b.Inv ∧ b.rActive = true ∧ ∃ t, step { b with rActive := false } = .next t ∧ t.out.resolve = some (.ok [])) ∧
    (c.Inv ∧ c.rActive = true ∧ c.rLeft = 0 ∧
      ∃ t, step { c with rActive := false } = .next t ∧ t.out.resolve = some (.err .requestTimeout)) ∧
    (d.Inv ∧ d.rActive = true ∧ d.rLeft ≠ 0 ∧ kindIn Err.requestTimeout.kind d.rAccept = true ∧
      ∃ t, step { d with rActive := false } = .next t ∧ t.out.resolve = some (.err .requestTimeout)) :=
  ⟨⟨by decide, rfl, _, rfl, rfl⟩, ⟨by decide, rfl, _, rfl, rfl⟩, ⟨by decide, rfl, rfl, _, rfl, rfl⟩,
    ⟨by decide, rfl, by decide, rfl, _, rfl, rfl⟩⟩

/-- For `StepKeepsInvariant`, `StepTakesOneEventAndKeepsConfiguration`, `StateMovesOnlyAlongItsTransitions`,
`TransmissionConsumesOneCounterValue` and `ResultsAppearWhenTransactionsEnd`: an outstanding transaction that its last tick ends. -/
theorem test_witness_step :
    let s : State := { start .unlocking 3 2 1 with events := [.tick] }
    s.Inv ∧ s.NotReset ∧ ∃ t, step s = .next t ∧ t.out.resolve.isSome = true :=
  ⟨by decide, by decide, _, rfl, rfl⟩

/-- A step that transmits, and leaves a stable state. -/
theorem test_witness_step_transmits :
    let s : State := connectedWith (.op 0x28 [])
    s.Inv ∧ s.NotReset ∧ s.state.waiting = false ∧
      ∃ t f, step s = .next t ∧ t.state ≠ s.state ∧ t.out.tx = some f :=
  ⟨by decide, by decide, rfl, _, _, rfl, by decide, rfl⟩

/-- A step that outputs a violation. -/
theorem test_witness_step_violation :
    let s : State := connectedWith (reply 0 0 0 0 0 0 0)
    s.Inv ∧ s.NotReset ∧ ∃ t, step s = .next t ∧ t.out.tx = none ∧ t.out.violation.isSome = true :=
  ⟨by decide, by decide, _, rfl, rfl, rfl⟩

/-- A step that enters `idle` from `disconnecting`. -/
theorem test_witness_IdleIsEnteredOnlyByDisconnectOrFailedConnect :
    let s : State := { start .disconnecting 8 7 4 with events := [reply 0 7 0 0 0 0 0] }
    s.Inv ∧ s.NotReset ∧ s.state ≠ .idle ∧ ∃ t, step s = .next t ∧ t.state = .idle :=
  ⟨by decide, by decide, by decide, _, rfl, rfl⟩

end Sys2Proof.Tests
end

/-!
## What one instruction and one step can do

The 29 instructions fall into six kinds; each is said once here, and the proofs about all instructions go by kind.
-/

namespace Sys2Proof.Machine

/-- A controller operation is an instruction of the block exactly when the controller admits it (R1, R90). -/
theorem wellFormed_toInstr (op : CtrlOp) (s : State) : op.toInstr.wellFormed s.cfg = s.admits op := by
  cases op <;> rfl

/-- What an instruction does under a configuration, by the unit that takes it: a frame at the RX port, a controller
operation, `CANCEL`, `RETRY`, a codec operation (a response alone), or an operation of the CRC unit. -/
inductive InstrKind (c : Config) : Instr → Prop
  | wire {i : Instr} (f : Frame) (hwf : i.wellFormed c = c.hasController)
      (hexec : ∀ s : State, s.cfg = c → exec i s = .next (rxStep f s)) : InstrKind c i
  | operation (op : CtrlOp) : InstrKind c op.toInstr
  | cancel : InstrKind c .cancel
  | retry (op : CtrlOp) (times : Byte) (accept : KindSet) : InstrKind c (.retry op times accept)
  | codec {i : Instr} (v : Response) (hwf : i.wellFormed c = true)
      (hexec : ∀ s : State, s.cfg = c → exec i s = .next (s.quiet.respond v)) : InstrKind c i
  | crc {i : Instr} (hwf : i.wellFormed c = true) (hcrc : isCrcOperation i = true) : InstrKind c i

/-- Every instruction is of one of the six kinds. -/
theorem instrKind (c : Config) (i : Instr) : InstrKind c i := by
  cases i with
  | wireConnect id ext ctr station pad =>
    exact .wire (wireConnectFrame c id ext ctr station pad) rfl (by rintro s rfl; rfl)
  | wireSetMta id ext ctr reserved extension address =>
    exact .wire (wireSetMtaFrame c id ext ctr reserved extension address) rfl (by rintro s rfl; rfl)
  | wireDownload id ext ctr length data =>
    exact .wire (wireDownloadFrame c id ext ctr length data) rfl (by rintro s rfl; rfl)
  | wireUpload id ext ctr count pad =>
    exact .wire (wireUploadFrame c id ext ctr count pad) rfl (by rintro s rfl; rfl)
  | wireDisconnect id ext ctr pad =>
    exact .wire (wireDisconnectFrame c id ext ctr pad) rfl (by rintro s rfl; rfl)
  | wireBuildChecksum id ext ctr length checksum =>
    exact .wire (wireBuildChecksumFrame c id ext ctr length checksum) rfl (by rintro s rfl; rfl)
  | wireClearMemory id ext ctr length pad =>
    exact .wire (wireClearMemoryFrame c id ext ctr length pad) rfl (by rintro s rfl; rfl)
  | wireUnlock id ext ctr lead password pad =>
    exact .wire (wireUnlockFrame c id ext ctr lead password pad) rfl (by rintro s rfl; rfl)
  | wireActionService id ext ctr payload =>
    exact .wire (wireActionServiceFrame c id ext ctr payload) rfl (by rintro s rfl; rfl)
  | wireDownload6 id ext ctr data =>
    exact .wire (wireDownload6Frame c id ext ctr data) rfl (by rintro s rfl; rfl)
  | wireReply id ext status ctr payload =>
    exact .wire (wireReplyFrame id ext status ctr payload) rfl (by rintro s rfl; rfl)
  | crcSeed => exact .crc rfl rfl
  | crcLoad => exact .crc rfl rfl
  | crcUpdate => exact .crc rfl rfl
  | crcRead => exact .crc rfl rfl
  | encodeCommand code ctr p => exact .codec (encodeCommand c code ctr p) rfl (by rintro s rfl; rfl)
  | encodeReply status ctr p => exact .codec (encodeReply c status ctr p) rfl (by rintro s rfl; rfl)
  | decodeFrame f => exact .codec (decodePacket c f) rfl (by rintro s rfl; rfl)
  | connect station => exact .operation (.connect station)
  | disconnect => exact .operation .disconnect
  | setMta e a => exact .operation (.setMta e a)
  | unlock p => exact .operation (.unlock p)
  | download d => exact .operation (.download d)
  | download6 d => exact .operation (.download6 d)
  | upload n block => exact .operation (.upload n block)
  | buildChecksum k len => exact .operation (.buildChecksum k len)
  | clearMemory => exact .operation .clearMemory
  | cancel => exact .cancel
  | retry op times accept => exact .retry op times accept

/-- An operation of the CRC unit writes no register but the lanes (R11, R104 to R107). -/
theorem exec_crcOperation {i : Instr} (h : isCrcOperation i = true) (s : State) :
    ∃ a b o, exec i s = .next { s with crc0 := a, crc1 := b, out := o } := by
  cases i with
  | crcSeed mask => exact ⟨_, _, _, rfl⟩
  | crcLoad lane v => cases lane <;> exact ⟨_, _, _, rfl⟩
  | crcUpdate mask b => exact ⟨_, _, _, rfl⟩
  | crcRead lane => exact ⟨_, _, _, rfl⟩
  | _ => cases h

/-! ### `CANCEL` and `RETRY` (R180, R191) -/

/-- What `CANCEL` can do: nothing without a controller, else it abandons a wrapper and ends the
outstanding transaction. -/
theorem exec_cancel_cases (s : State) :
    (s.cfg.hasController = false ∧ exec .cancel s = .next s.ignored) ∨
    (s.cfg.hasController = true ∧ s.active = true ∧
      exec .cancel s = .next ((fail .cancelled s.quiet.abandonRetry).respond .accepted)) ∨
    (s.cfg.hasController = true ∧ s.active = false ∧
      exec .cancel s = .next (s.quiet.abandonRetry.respond .accepted)) := by
  cases hc : s.cfg.hasController <;> cases ha : s.active <;> simp [exec, execCancel, hc, ha]

/-- What `RETRY` can do: nothing where it is not admitted, else it is busy or attempts its operation. -/
theorem exec_retry_cases (op : CtrlOp) (times : Byte) (accept : KindSet) (s : State) :
    (s.admitsRetry op = false ∧ exec (.retry op times accept) s = .next s.ignored) ∨
    (s.admitsRetry op = true ∧ s.rActive = true ∧
      exec (.retry op times accept) s = .next (s.quiet.respond (.err .handlerBusy))) ∨
    (s.admitsRetry op = true ∧ s.rActive = false ∧
      exec (.retry op times accept) s =
        .next (attempt true times.toNat { s.quiet with rOp := op, rLeft := times, rAccept := accept })) := by
  cases hd : s.admitsRetry op <;> cases ha : s.rActive <;> simp [exec, execRetry, hd, ha]

theorem step_instruction {s : State} {e : Event} {rest : List Event} {i : Instr} (h : s.events = e :: rest)
    (hd : decode s.cfg e = .ok i) : step s = exec i { s with events := rest } := by
  simp [step, fetch, h, hd]

/-! ### Absent units (R1) -/

/-- An instruction the block of this configuration does not have selects nothing (R1, notes/assumptions/6.md). -/
theorem exec_of_not_wellFormed {s : State} {i : Instr} (h : i.wellFormed s.cfg = false) :
    exec i s = .next s.ignored := by
  cases instrKind s.cfg i with
  | wire f hwf hexec => rw [hexec s rfl, rxStep_absent (hwf ▸ h)]
  | operation op => rw [exec_toInstr, present_absent (wellFormed_toInstr op s ▸ h)]
  | cancel =>
    rcases exec_cancel_cases s with ⟨-, he⟩ | ⟨hc, -⟩ | ⟨hc, -⟩
    · exact he
    · exact nomatch hc.symm.trans h
    · exact nomatch hc.symm.trans h
  | retry op times accept =>
    rcases exec_retry_cases op times accept s with ⟨-, he⟩ | ⟨had, -⟩ | ⟨had, -⟩
    · exact he
    · exact nomatch had.symm.trans h
    · exact nomatch had.symm.trans h
  | codec v hwf => exact nomatch hwf.symm.trans h
  | crc hwf => exact nomatch hwf.symm.trans h

/-- Settles O8: by the kind of the instruction, each by its unit's absent case. -/
theorem absentUnitsDoNothing : Obligations.AbsentUnitsDoNothing := by
  unfold Obligations.AbsentUnitsDoNothing
  intro s i h
  exact exec_of_not_wellFormed h

end Sys2Proof.Machine

/-!
## The CRC lanes and the rest of the state do not interfere (R1, R11)

Each operation outside the CRC unit commutes with writing arbitrary values into the two lanes.
-/

namespace Sys2Proof.Machine

/-- The state with the two lanes replaced. -/
def State.withLanes (s : State) (a b : Half) : State := { s with crc0 := a, crc1 := b }

section LaneWrites

variable (s : State) (a b : Half)

theorem withLanes_rOp : (s.withLanes a b).rOp = s.rOp := rfl

theorem quiet_withLanes : (s.withLanes a b).quiet = s.quiet.withLanes a b := rfl

theorem respond_withLanes (v : Response) :
    (s.withLanes a b).respond v = (s.respond v).withLanes a b := rfl

theorem refusal_withLanes (op : CtrlOp) : refusal op (s.withLanes a b) = refusal op s := rfl

theorem rxError_withLanes (f : Frame) : rxError (s.withLanes a b) f = rxError s f := rfl

theorem accept_withLanes (op : CtrlOp) : accept op (s.withLanes a b) = (accept op s).withLanes a b := by
  cases op <;> rfl

/-- Two branches on a condition that does not read the lanes: each may be followed by itself. -/
theorem ite_withLanes {p : Prop} [Decidable p] {a b : Half} {x x' y y' : State} (hx : x = x'.withLanes a b)
    (hy : y = y'.withLanes a b) : (if p then x else y) = (if p then x' else y').withLanes a b := by
  split
  · exact hx
  · exact hy

theorem abandonRetry_withLanes : (s.withLanes a b).abandonRetry = s.abandonRetry.withLanes a b := by
  unfold State.abandonRetry
  exact ite_withLanes rfl rfl

theorem present_withLanes (op : CtrlOp) : present op (s.withLanes a b) = (present op s).withLanes a b := by
  unfold present
  refine ite_withLanes ?_ rfl
  rw [refusal_withLanes, quiet_withLanes, accept_withLanes]
  cases refusal op s <;> rfl

theorem attempt_withLanes (sync : Bool) (left : Nat) :
    attempt sync left (s.withLanes a b) = (attempt sync left s).withLanes a b := by
  cases h : refusal s.rOp s with
  | none =>
    rw [attempt_accepted h, attempt_accepted (s := s.withLanes a b) h, withLanes_rOp, accept_withLanes]
    cases sync <;> rfl
  | some e =>
    rw [attempt_refused left h, attempt_refused (s := s.withLanes a b) left h]
    cases sync <;> rfl

theorem deliver_withLanes (r : Result) : deliver r (s.withLanes a b) = (deliver r s).withLanes a b := by
  unfold deliver
  cases r with
  | ok bytes => exact ite_withLanes rfl rfl
  | err e =>
    have hagain := attempt_withLanes { s with rLeft := s.rLeft - 1 } a b false (s.rLeft.toNat - 1)
    exact ite_withLanes (ite_withLanes hagain rfl) rfl

theorem fail_withLanes (e : Err) : fail e (s.withLanes a b) = (fail e s).withLanes a b :=
  deliver_withLanes { s with state := s.state.enteredFrom, active := false, timer := 0 } a b _

theorem succeed_withLanes (bytes : List Byte) :
    succeed bytes (s.withLanes a b) = (succeed bytes s).withLanes a b :=
  deliver_withLanes { s with state := s.state.ackState, active := false, timer := 0 } a b _

theorem uploadReply_withLanes (f : Frame) : uploadReply f (s.withLanes a b) = (uploadReply f s).withLanes a b := by
  unfold uploadReply
  exact ite_withLanes (succeed_withLanes { s with upBuf := s.upBuf ++ (f.data.drop 3).take (uploadTake s) } a b _) rfl

theorem acknowledge_withLanes (f : Frame) : acknowledge f (s.withLanes a b) = (acknowledge f s).withLanes a b := by
  unfold acknowledge
  exact ite_withLanes (uploadReply_withLanes s a b f) (succeed_withLanes s a b [])

theorem rejectFrame_withLanes (e : Err) : rejectFrame e (s.withLanes a b) = (rejectFrame e s).withLanes a b := by
  unfold rejectFrame
  exact ite_withLanes (fail_withLanes s a b e) rfl

theorem rxStep_withLanes (f : Frame) : rxStep f (s.withLanes a b) = (rxStep f s).withLanes a b := by
  unfold rxStep
  refine ite_withLanes ?_ rfl
  rw [rxError_withLanes]
  cases rxError s f with
  | some e => exact rejectFrame_withLanes s.quiet a b e
  | none => exact acknowledge_withLanes s.quiet a b f

theorem tickStep_withLanes : tickStep (s.withLanes a b) = (tickStep s).withLanes a b := by
  have hexpire := fail_withLanes { s.quiet with timer := s.timer - 1 } a b .requestTimeout
  unfold tickStep
  exact ite_withLanes (ite_withLanes (ite_withLanes hexpire rfl) rfl) rfl

theorem exec_cancel_withLanes :
    ∃ t, exec .cancel s = .next t ∧ exec .cancel (s.withLanes a b) = .next (t.withLanes a b) := by
  refine ⟨_, rfl, congrArg Host.Outcome.next (ite_withLanes ?_ rfl)⟩
  rw [quiet_withLanes, abandonRetry_withLanes, ← respond_withLanes]
  exact congrArg (State.respond · .accepted) (ite_withLanes (fail_withLanes _ a b _) rfl)

theorem exec_retry_withLanes (op : CtrlOp) (times : Byte) (accept : KindSet) :
    ∃ t, exec (.retry op times accept) s = .next t ∧
      exec (.retry op times accept) (s.withLanes a b) = .next (t.withLanes a b) := by
  have hattempt := attempt_withLanes { s.quiet with rOp := op, rLeft := times, rAccept := accept } a b true times.toNat
  exact ⟨_, rfl, congrArg Host.Outcome.next (ite_withLanes (ite_withLanes rfl hattempt) rfl)⟩

/-- An instruction outside the CRC unit neither reads nor writes a lane. -/
theorem exec_withLanes {i : Instr} (h : isCrcOperation i = false) :
    ∃ t, exec i s = .next t ∧ exec i (s.withLanes a b) = .next (t.withLanes a b) := by
  cases instrKind s.cfg i with
  | wire f hwf hexec => exact ⟨_, hexec s rfl, by rw [hexec (s.withLanes a b) rfl, rxStep_withLanes]⟩
  | operation op => exact ⟨_, exec_toInstr op s, by rw [exec_toInstr, present_withLanes]⟩
  | cancel => exact exec_cancel_withLanes s a b
  | retry op times accept => exact exec_retry_withLanes s a b op times accept
  | codec v hwf hexec => exact ⟨_, hexec s rfl, hexec _ rfl⟩
  | crc hwf hcrc => exact nomatch hcrc.symm.trans h

/-- An event that is no instruction neither reads nor writes a lane, unless it is a RESET (R260). -/
theorem otherEvent_withLanes {e : Event} (h : e ≠ .reset) :
    otherEvent e (s.withLanes a b) = (otherEvent e s).withLanes a b := by
  cases e with
  | op sel args => rfl
  | rx f => exact rxStep_withLanes s a b f
  | tick => exact tickStep_withLanes s a b
  | reset => exact absurd rfl h

end LaneWrites

/-- Settles O17: by what the event decodes to, each kind of step commuting with a change of the lanes. -/
theorem lanesAreIndependentOfTheRest : Obligations.LanesAreIndependentOfTheRest := by
  unfold Obligations.LanesAreIndependentOfTheRest
  intro s e rest hev hreset hcrc
  cases hd : decode s.cfg e with
  | ok i =>
    obtain ⟨t, ht, -⟩ := exec_withLanes { s with events := rest } 0 0 (hcrc i hd)
    refine ⟨t, (step_instruction hev hd).trans ht, fun a b => ?_⟩
    obtain ⟨t', ht', hab⟩ := exec_withLanes { s with events := rest } a b (hcrc i hd)
    cases ht.symm.trans ht'
    exact (step_instruction (s := s.withLanes a b) hev hd).trans hab
  | error r =>
    refine ⟨_, step_other hev hd, fun a b => ?_⟩
    refine (step_other (s := s.withLanes a b) hev hd).trans ?_
    exact congrArg _ (otherEvent_withLanes { s with events := rest } a b hreset)

end Sys2Proof.Machine

/-!
## Every step keeps the invariant

A transaction that ends passes through a state in which the wrapper is still set and nothing is outstanding, which the
invariant excludes. So the controller's part of the invariant and the wrapper's are followed apart, and joined when the
arbiter has dealt with the result.
-/

namespace Sys2Proof.Machine

/-- The invariant but for the retry wrapper. -/
abbrev State.ControllerInv (s : State) : Prop :=
  s.cfg.Valid ∧ s.ActiveIsWaiting ∧ s.TimerArmed ∧ s.CounterFollows ∧ s.UploadBounded ∧ s.AbsentController

/-- What is left of the invariant in a state whose transaction is about to end: enough to end it and to attempt a
wrapped operation again. -/
abbrev State.CanEnd (s : State) : Prop :=
  s.cfg.Valid ∧ s.cfg.hasController = true ∧ s.upBuf.length ≤ s.upN.toNat ∧
    (s.rActive = true → s.cfg.hasRetry = true ∧ s.rOp.wellFormed s.cfg = true)

theorem inv_iff (s : State) : s.Inv ↔ s.ControllerInv ∧ s.WrapperOutstanding := by
  constructor
  · rintro ⟨hvalid, hactive, htimer, hctr, hup, hwrap, habsent⟩
    exact ⟨⟨hvalid, hactive, htimer, hctr, hup, habsent⟩, hwrap⟩
  · rintro ⟨⟨hvalid, hactive, htimer, hctr, hup, habsent⟩, hwrap⟩
    exact ⟨hvalid, hactive, htimer, hctr, hup, hwrap, habsent⟩

/-- With no wrapper in progress the controller's part is the whole invariant. -/
theorem State.ControllerInv.inv {s : State} (h : s.ControllerInv) (hr : s.rActive = false) : s.Inv :=
  (inv_iff s).2 ⟨h, fun hr' => nomatch hr.symm.trans hr'⟩

theorem State.Inv.canEnd {s : State} (h : s.Inv) (hc : s.cfg.hasController = true) : s.CanEnd := by
  obtain ⟨hvalid, -, -, -, ⟨hlen, -⟩, hwrap, -⟩ := h
  refine ⟨hvalid, hc, hlen, fun hr => ?_⟩
  obtain ⟨-, hretry, -, -, hwf⟩ := hwrap hr
  exact ⟨hretry, hwf⟩

/-! ### What the invariant does not read: the lanes, the ports and the events still to come -/

section Unread

variable (s : State)

@[simp] theorem quiet_inv : s.quiet.Inv ↔ s.Inv := Iff.rfl
@[simp] theorem ignored_inv : s.ignored.Inv ↔ s.Inv := Iff.rfl
@[simp] theorem respond_inv (v : Response) : (s.respond v).Inv ↔ s.Inv := Iff.rfl
@[simp] theorem resolved_inv (r : Result) : (s.resolved r).Inv ↔ s.Inv := Iff.rfl
@[simp] theorem violation_inv (e : Err) : (s.violation e).Inv ↔ s.Inv := Iff.rfl
theorem lanes_inv (a b : Half) (o : Outputs) :
    State.Inv { s with crc0 := a, crc1 := b, out := o } ↔ s.Inv := Iff.rfl
theorem events_inv (rest : List Event) : State.Inv { s with events := rest } ↔ s.Inv := Iff.rfl
@[simp] theorem report_inv (sync : Bool) (e : Err) : (s.report sync e).Inv ↔ s.Inv := by cases sync <;> rfl

end Unread

theorem abandonRetry_inv {s : State} (h : s.Inv) : s.abandonRetry.Inv := by
  unfold State.abandonRetry
  split
  · exact State.ControllerInv.inv (s := { s with rActive := false }) ((inv_iff s).1 h).1 rfl
  · exact h

/-! ### A transaction begins (R141) -/

/-- The timer of a command under way lies in its range (R5, R20). -/
theorem timeout_in_range {c : Config} (h : c.Valid) (m : CommandCode) :
    1 ≤ c.timeout.get m ∧ c.timeout.get m ≤ c.maxTimeout := by
  obtain ⟨-, -, -, -, htimeout, -⟩ := h
  exact ⟨htimeout m (CommandCode.mem_all m), timeout_le_maxTimeout c m⟩

/-- An accepted `UPLOAD` starts with an empty buffer (R148); no other operation waits in `uploading` or touches it. -/
theorem accept_uploadBounded (op : CtrlOp) {s : State} (h : s.upBuf.length ≤ s.upN.toNat) :
    (accept op s).UploadBounded := by
  cases op with
  | upload n block =>
    refine ⟨Nat.zero_le _, fun _ => ⟨rfl, ?_⟩⟩
    show 0 < n.toNat ∨ n = 0
    bv_omega
  | _ => exact ⟨h, nofun⟩

theorem accept_controllerInv (op : CtrlOp) {s : State} (h : s.ControllerInv) (hc : s.cfg.hasController = true) :
    (accept op s).ControllerInv := by
  obtain ⟨hvalid, -, -, -, ⟨hlen, -⟩, -⟩ := h
  refine ⟨by rwa [accept_cfg], by simp [State.ActiveIsWaiting], ?_, by simp [State.CounterFollows],
    accept_uploadBounded op hlen, by simp [State.AbsentController, hc]⟩
  simpa [State.TimerArmed] using timeout_in_range hvalid op.code

/-- An operation that the host issues while no transaction is outstanding: no wrapper is in progress either (R193). -/
theorem accept_inv (op : CtrlOp) {s : State} (h : s.Inv) (hc : s.cfg.hasController = true)
    (href : refusal op s = none) : (accept op s).Inv := by
  obtain ⟨hctrl, hwrap⟩ := (inv_iff s).1 h
  obtain ⟨hidle, -, -⟩ := (refusal_eq_none_iff op s).1 href
  refine (accept_controllerInv op hctrl hc).inv ?_
  rw [accept_rActive, ← Bool.not_eq_true]
  intro hr
  exact nomatch hidle.symm.trans (hwrap hr).1

/-- The arbiter's attempt leaves a wrapper exactly when its operation is under way (R191, R193). -/
theorem attempt_inv (sync : Bool) (left : Nat) {s : State} (h : s.ControllerInv) (hc : s.cfg.hasController = true)
    (hretry : s.cfg.hasRetry = true) (hwf : s.rOp.wellFormed s.cfg = true) : (attempt sync left s).Inv := by
  rcases attempt_cases sync left s with ⟨href, he⟩ | ⟨e, n, -, he⟩
  · obtain ⟨-, -, hcontract⟩ := (refusal_eq_none_iff s.rOp s).1 href
    have hacc : State.Inv { accept s.rOp s with rActive := true } :=
      (inv_iff _).2 ⟨accept_controllerInv s.rOp h hc, fun _ => by simp [hretry, hcontract, hwf]⟩
    rw [he]
    cases sync <;> exact hacc
  · rw [he, report_inv]
    exact State.ControllerInv.inv (s := { s with rActive := false, rLeft := n }) h rfl

/-! ### A transaction ends (R173, R176, R192) -/

/-- A state with its transaction cleared and back in a stable state. -/
theorem cleared_controllerInv {s : State} (h : s.CanEnd) {w : HandlerState} (hw : w.waiting = false) :
    State.ControllerInv { s with state := w, active := false, timer := 0 } := by
  obtain ⟨hvalid, hc, hlen, -⟩ := h
  refine ⟨hvalid, hw.symm, by simp [State.TimerArmed], by simp [State.CounterFollows], ⟨hlen, ?_⟩,
    by simp [State.AbsentController, hc]⟩
  rintro rfl
  cases hw

/-- The arbiter ends the wrapper with the result, or starts the wrapped operation again. -/
theorem deliver_inv (r : Result) {s : State} (h : s.ControllerInv) (hend : s.CanEnd) : (deliver r s).Inv := by
  obtain ⟨-, hc, -, hwrap⟩ := hend
  rcases deliver_cases r s with ⟨b, he, hb⟩ | ⟨e, -, hretry, hr, -, -, he⟩
  · have hb0 : b = false := by
      rw [← Bool.not_eq_true]
      intro hbt
      obtain ⟨hr, hnoRetry⟩ := hb hbt
      exact nomatch hnoRetry.symm.trans (hwrap hr).1
    rw [he, resolved_inv]
    exact State.ControllerInv.inv (s := { s with rActive := b }) h hb0
  · rw [he]
    exact attempt_inv _ _ (s := { s with rLeft := s.rLeft - 1 }) h hc hretry (hwrap hr).2

theorem fail_inv (e : Err) {s : State} (h : s.CanEnd) : (fail e s).Inv :=
  deliver_inv _ (cleared_controllerInv h (waiting_enteredFrom s.state)) h

theorem succeed_inv (bytes : List Byte) {s : State} (h : s.CanEnd) : (succeed bytes s).Inv :=
  deliver_inv _ (cleared_controllerInv h (waiting_ackState s.state)) h

/-! ### Each input event -/

theorem present_inv (op : CtrlOp) {s : State} (h : s.Inv) : (present op s).Inv := by
  rcases present_cases op s with ⟨-, he⟩ | ⟨-, e, -, he⟩ | ⟨had, href, he⟩
  · rwa [he, ignored_inv]
  · rwa [he, respond_inv, quiet_inv]
  · have hc : s.cfg.hasController = true := (Bool.and_eq_true_iff.1 had).1
    rw [he, respond_inv]
    exact accept_inv op (s := s.quiet) h hc href

/-- An upload reply of 8 bytes brings a whole reply's 5 bytes or the last ones wanted (R57, R174). -/
theorem uploadReply_inv {f : Frame} {s : State} (h : s.Inv) (hc : s.cfg.hasController = true)
    (hlen : f.data.length = 8) (ha : s.active = true) (hs : s.state = .uploading) : (uploadReply f s).Inv := by
  obtain ⟨hvalid, hactive, htimer, hctr, ⟨hle, hmore⟩, hwrap, habsent⟩ := id h
  obtain ⟨hwhole, -⟩ := hmore hs
  obtain ⟨buf, hbuf, hcases⟩ := uploadReply_cases f s
  have hbufLen : buf.length = s.upBuf.length + min 5 (s.upN.toNat - s.upBuf.length) := by
    simp only [hbuf, List.length_append, List.length_take, List.length_drop, hlen]
    omega
  rcases hcases with ⟨hlast, he⟩ | ⟨hmid, he⟩
  · obtain ⟨-, -, -, hcan⟩ := h.canEnd hc
    rw [he]
    exact succeed_inv buf (s := { s with upBuf := buf }) ⟨hvalid, hc, hlast.le, hcan⟩
  · have harmed : State.TimerArmed { s with upBuf := buf, timer := s.cfg.timeout.get .upload } :=
      ⟨fun _ => timeout_in_range hvalid .upload, fun hna => nomatch ha.symm.trans hna⟩
    have hbounded : State.UploadBounded { s with upBuf := buf, timer := s.cfg.timeout.get .upload } := by
      refine ⟨?_, fun _ => ⟨?_, .inl ?_⟩⟩ <;> dsimp only <;> omega
    rw [he]
    exact ⟨hvalid, hactive, harmed, hctr, hbounded, hwrap, habsent⟩

theorem rxStep_inv (f : Frame) {s : State} (h : s.Inv) : (rxStep f s).Inv := by
  cases hc : s.cfg.hasController with
  | false => rwa [rxStep_absent hc, ignored_inv]
  | true =>
    rcases rxStep_cases f hc with ⟨e, -, -, he⟩ | ⟨e, -, -, he⟩ | ⟨-, -, he⟩ | ⟨hpass, hs, he⟩
    · rw [he]; exact fail_inv e (s := s.quiet) (h.canEnd hc)
    · rwa [he, violation_inv, quiet_inv]
    · rw [he]; exact succeed_inv [] (s := s.quiet) (h.canEnd hc)
    · obtain ⟨hlen, -, -, -, ha, -⟩ := (rxError_eq_none_iff s f).1 hpass
      rw [he]
      exact uploadReply_inv (s := s.quiet) h hc hlen ha hs

theorem tickStep_inv {s : State} (h : s.Inv) : (tickStep s).Inv := by
  rcases tickStep_cases s with ⟨hc, -, -, he⟩ | ⟨-, ha, hmore, he⟩ | ⟨-, he⟩
  · rw [he]
    exact fail_inv _ (s := { s.quiet with timer := s.timer - 1 }) (h.canEnd hc)
  · obtain ⟨hvalid, hactive, ⟨harmed, -⟩, hrest⟩ := h
    have harmed' : State.TimerArmed { s.quiet with timer := s.timer - 1 } := by
      obtain ⟨-, hmax⟩ := harmed ha
      refine ⟨fun _ => ?_, fun hna => nomatch ha.symm.trans hna⟩
      show 1 ≤ s.timer - 1 ∧ s.timer - 1 ≤ s.cfg.maxTimeout
      omega
    rw [he]
    exact ⟨hvalid, hactive, harmed', hrest⟩
  · rwa [he, quiet_inv]

/-- RESET brings the controller to `idle` with nothing outstanding, under the same configuration (R260, R10). -/
theorem resetStep_inv {s : State} (h : s.Inv) : (resetStep s).Inv := by
  obtain ⟨hvalid, -⟩ := h
  refine State.ControllerInv.inv ⟨hvalid, rfl, ⟨nofun, fun _ => rfl⟩, nofun, ⟨Nat.zero_le _, nofun⟩, fun _ => rfl⟩ rfl

theorem otherEvent_inv (e : Event) {s : State} (h : s.Inv) : (otherEvent e s).Inv := by
  cases e with
  | op sel args => exact (ignored_inv s).2 h
  | rx f => exact rxStep_inv f h
  | tick => exact tickStep_inv h
  | reset => exact resetStep_inv h

theorem exec_cancel_inv {s : State} (h : s.Inv) : ∃ t, exec .cancel s = .next t ∧ t.Inv := by
  have hab : s.quiet.abandonRetry.Inv := abandonRetry_inv ((quiet_inv s).2 h)
  rcases exec_cancel_cases s with ⟨-, he⟩ | ⟨hc, -, he⟩ | ⟨-, -, he⟩
  · exact ⟨_, he, (ignored_inv s).2 h⟩
  · exact ⟨_, he, fail_inv _ (hab.canEnd (by simpa using hc))⟩
  · exact ⟨_, he, (respond_inv _ _).2 hab⟩

theorem exec_retry_inv (op : CtrlOp) (times : Byte) (accept : KindSet) {s : State} (h : s.Inv) :
    ∃ t, exec (.retry op times accept) s = .next t ∧ t.Inv := by
  rcases exec_retry_cases op times accept s with ⟨-, he⟩ | ⟨-, -, he⟩ | ⟨had, -, he⟩
  · exact ⟨_, he, (ignored_inv s).2 h⟩
  · exact ⟨_, he, (respond_inv _ _).2 h⟩
  · simp only [State.admitsRetry, Bool.and_eq_true] at had
    obtain ⟨⟨hc, hretry⟩, hwf⟩ := had
    exact ⟨_, he, attempt_inv _ _ (s := { s.quiet with rOp := op, rLeft := times, rAccept := accept })
      ((inv_iff s).1 h).1 hc hretry hwf⟩

theorem exec_inv (i : Instr) {s : State} (h : s.Inv) : ∃ t, exec i s = .next t ∧ t.Inv := by
  cases instrKind s.cfg i with
  | wire f hwf hexec => exact ⟨_, hexec s rfl, rxStep_inv f h⟩
  | operation op => exact ⟨_, exec_toInstr op s, present_inv op h⟩
  | cancel => exact exec_cancel_inv h
  | retry op times accept => exact exec_retry_inv op times accept h
  | codec v hwf hexec => exact ⟨_, hexec s rfl, (respond_inv _ _).2 h⟩
  | crc hwf hcrc =>
    obtain ⟨a, b, o, he⟩ := exec_crcOperation hcrc s
    exact ⟨_, he, (lanes_inv s a b o).2 h⟩

/-- From a state that meets the invariant the block steps, and to one that meets it. -/
theorem step_inv {s : State} (h : s.Inv) : ∃ t, step s = .next t ∧ t.Inv := by
  cases hev : s.events with
  | nil => exact ⟨_, step_no_event hev, (quiet_inv s).2 h⟩
  | cons e rest =>
    have hrest : State.Inv { s with events := rest } := (events_inv s rest).2 h
    cases hd : decode s.cfg e with
    | ok i =>
      rw [step_instruction hev hd]
      exact exec_inv i hrest
    | error r => exact ⟨_, step_other hev hd, otherEvent_inv e hrest⟩

/-- Settles O49: by the kind of the event, the two parts of the invariant followed apart while a transaction ends. -/
theorem stepKeepsInvariant : Obligations.StepKeepsInvariant := by
  unfold Obligations.StepKeepsInvariant
  intro s t h hstep
  obtain ⟨t', hstep', ht'⟩ := step_inv h
  cases hstep.symm.trans hstep'
  exact ht'

end Sys2Proof.Machine

/-!
## One event is taken, and the configuration stays (R10, R50, R182)

No operation of any unit writes the configuration or the events still to come; the step alone takes the next event. This
needs no invariant, so it is followed apart from what a step does to the registers.
-/

namespace Sys2Proof.Machine

/-- The configuration and the events still to come agree: what the environment gives the block. -/
abbrev State.SameInput (s t : State) : Prop := t.cfg = s.cfg ∧ t.events = s.events

section Input

variable (s : State)

theorem accept_sameInput (op : CtrlOp) : s.SameInput (accept op s) := ⟨accept_cfg op s, accept_events op s⟩

theorem report_sameInput (sync : Bool) (e : Err) : s.SameInput (s.report sync e) := by
  cases sync <;> exact ⟨rfl, rfl⟩

theorem abandonRetry_sameInput : s.SameInput s.abandonRetry := ⟨abandonRetry_cfg s, abandonRetry_events s⟩

theorem attempt_sameInput (sync : Bool) (left : Nat) : s.SameInput (attempt sync left s) := by
  rcases attempt_cases sync left s with ⟨-, he⟩ | ⟨e, n, -, he⟩
  · rw [he]
    cases sync <;> exact accept_sameInput s s.rOp
  · rw [he]
    exact report_sameInput { s with rActive := false, rLeft := n } sync e

theorem deliver_sameInput (r : Result) : s.SameInput (deliver r s) := by
  rcases deliver_cases r s with ⟨b, he, -⟩ | ⟨e, -, -, -, -, -, he⟩
  · rw [he]
    exact ⟨rfl, rfl⟩
  · rw [he]
    exact attempt_sameInput { s with rLeft := s.rLeft - 1 } _ _

theorem fail_sameInput (e : Err) : s.SameInput (fail e s) :=
  deliver_sameInput { s with state := s.state.enteredFrom, active := false, timer := 0 } _

theorem succeed_sameInput (bytes : List Byte) : s.SameInput (succeed bytes s) :=
  deliver_sameInput { s with state := s.state.ackState, active := false, timer := 0 } _

theorem present_sameInput (op : CtrlOp) : s.SameInput (present op s) := by
  rcases present_cases op s with ⟨-, he⟩ | ⟨-, e, -, he⟩ | ⟨-, -, he⟩
  · rw [he]; exact ⟨rfl, rfl⟩
  · rw [he]; exact ⟨rfl, rfl⟩
  · rw [he]; exact accept_sameInput s.quiet op

theorem uploadReply_sameInput (f : Frame) : s.SameInput (uploadReply f s) := by
  obtain ⟨buf, -, ⟨-, he⟩ | ⟨-, he⟩⟩ := uploadReply_cases f s
  · rw [he]; exact succeed_sameInput { s with upBuf := buf } buf
  · rw [he]; exact ⟨rfl, rfl⟩

theorem rxStep_sameInput (f : Frame) : s.SameInput (rxStep f s) := by
  cases hc : s.cfg.hasController with
  | false => rw [rxStep_absent hc]; exact ⟨rfl, rfl⟩
  | true =>
    rcases rxStep_cases f hc with ⟨e, -, -, he⟩ | ⟨e, -, -, he⟩ | ⟨-, -, he⟩ | ⟨-, -, he⟩
    · rw [he]; exact fail_sameInput s.quiet e
    · rw [he]; exact ⟨rfl, rfl⟩
    · rw [he]; exact succeed_sameInput s.quiet []
    · rw [he]; exact uploadReply_sameInput s.quiet f

theorem tickStep_sameInput : s.SameInput (tickStep s) := by
  rcases tickStep_cases s with ⟨-, -, -, he⟩ | ⟨-, -, -, he⟩ | ⟨-, he⟩
  · rw [he]; exact fail_sameInput { s.quiet with timer := s.timer - 1 } _
  · rw [he]; exact ⟨rfl, rfl⟩
  · rw [he]; exact ⟨rfl, rfl⟩

/-- A RESET writes registers alone (R260). -/
theorem otherEvent_sameInput (e : Event) : s.SameInput (otherEvent e s) := by
  cases e with
  | op sel args => exact ⟨rfl, rfl⟩
  | rx f => exact rxStep_sameInput s f
  | tick => exact tickStep_sameInput s
  | reset => exact ⟨rfl, rfl⟩

theorem exec_cancel_sameInput : ∃ t, exec .cancel s = .next t ∧ s.SameInput t := by
  obtain ⟨habCfg, habEvents⟩ := abandonRetry_sameInput s.quiet
  rcases exec_cancel_cases s with ⟨-, he⟩ | ⟨-, -, he⟩ | ⟨-, -, he⟩
  · exact ⟨_, he, rfl, rfl⟩
  · obtain ⟨hcfg, hevents⟩ := fail_sameInput s.quiet.abandonRetry .cancelled
    exact ⟨_, he, hcfg.trans habCfg, hevents.trans habEvents⟩
  · exact ⟨_, he, habCfg, habEvents⟩

theorem exec_retry_sameInput (op : CtrlOp) (times : Byte) (accept : KindSet) :
    ∃ t, exec (.retry op times accept) s = .next t ∧ s.SameInput t := by
  rcases exec_retry_cases op times accept s with ⟨-, he⟩ | ⟨-, -, he⟩ | ⟨-, -, he⟩
  · exact ⟨_, he, rfl, rfl⟩
  · exact ⟨_, he, rfl, rfl⟩
  · exact ⟨_, he, attempt_sameInput { s.quiet with rOp := op, rLeft := times, rAccept := accept } _ _⟩

theorem exec_sameInput (i : Instr) : ∃ t, exec i s = .next t ∧ s.SameInput t := by
  cases instrKind s.cfg i with
  | wire f hwf hexec => exact ⟨_, hexec s rfl, rxStep_sameInput s f⟩
  | operation op => exact ⟨_, exec_toInstr op s, present_sameInput s op⟩
  | cancel => exact exec_cancel_sameInput s
  | retry op times accept => exact exec_retry_sameInput s op times accept
  | codec v hwf hexec => exact ⟨_, hexec s rfl, rfl, rfl⟩
  | crc hwf hcrc =>
    obtain ⟨a, b, o, he⟩ := exec_crcOperation hcrc s
    exact ⟨_, he, rfl, rfl⟩

/-- Every step answers a state, with the first event gone and the configuration as it was. -/
theorem step_takes_first_event : ∃ t, step s = .next t ∧ t.cfg = s.cfg ∧ t.events = s.events.tail := by
  cases hev : s.events with
  | nil => exact ⟨_, step_no_event hev, rfl, hev⟩
  | cons e rest =>
    cases hd : decode s.cfg e with
    | ok i =>
      rw [step_instruction hev hd]
      exact exec_sameInput { s with events := rest } i
    | error r => exact ⟨_, step_other hev hd, otherEvent_sameInput { s with events := rest } e⟩

end Input

/-- Settles O50: whatever the event decodes to, only the step itself takes from the sequence. -/
theorem stepTakesOneEventAndKeepsConfiguration : Obligations.StepTakesOneEventAndKeepsConfiguration := by
  unfold Obligations.StepTakesOneEventAndKeepsConfiguration
  intro s t hstep
  obtain ⟨t', hstep', ht'⟩ := step_takes_first_event s
  cases hstep.symm.trans hstep'
  exact ht'

end Sys2Proof.Machine

/-!
## What a step outside RESET can do to the transaction

From a state of the invariant there are five possibilities, said once in `StepEffect`; the statements about the register
state, about `idle` and about the frames that leave are read off from it.
-/

namespace Sys2Proof.Machine

/-- No frame leaves, and no counter value is consumed (R18). -/
abbrev State.Silent (s t : State) : Prop :=
  t.out.tx = none ∧ t.sendCtr = s.sendCtr ∧ t.lastCtr = s.lastCtr

/-- The command of an operation within its contract leaves, and its transaction is outstanding (R141). -/
abbrev State.Sends (s : State) (op : CtrlOp) (t : State) : Prop :=
  op.contractHolds = true ∧
    t.out.tx = some (commandFrame s.cfg (s.cfg.code.get op.code) s.sendCtr (op.payload s.cfg)) ∧
    t.sendCtr = s.sendCtr + 1 ∧ t.lastCtr = s.sendCtr ∧ t.active = true ∧ t.timer = s.cfg.timeout.get op.code

/-- What a step from `s` to `t` does to the transaction, outside a RESET. -/
inductive StepEffect (s t : State) : Prop
  /-- No transaction begins or ends. -/
  | stays (hstate : t.state = s.state) (hactive : t.active = s.active) (hresolve : t.out.resolve = none)
      (hsilent : s.Silent t)
  /-- An operation of the host, bare or wrapped, is accepted (R141, R191). -/
  | issued (op : CtrlOp) (hpasses : refusal op s = none) (hstate : t.state = op.waitingState)
      (hrespond : t.out.respond = some .accepted) (hresolve : t.out.resolve = none) (hsends : s.Sends op t)
  /-- The arbiter takes the error of the wrapped operation and issues it again (R192). -/
  | reissued (hactive : s.active = true) (hstate : t.state = s.state) (hresolve : t.out.resolve = none)
      (hsends : s.Sends s.rOp t)
  /-- The transaction fails (R176). -/
  | failed (e : Err) (hactive : s.active = true) (hended : t.active = false) (hstate : t.state = s.state.enteredFrom)
      (hresolve : t.out.resolve = some (.err e)) (hsilent : s.Silent t)
  /-- The transaction is acknowledged; only an `UPLOAD` brings bytes (R173, R174). -/
  | acknowledged (bytes : List Byte) (hbytes : s.state ≠ .uploading → bytes = []) (hactive : s.active = true)
      (hended : t.active = false) (hstate : t.state = s.state.ackState)
      (hresolve : t.out.resolve = some (.ok bytes)) (hsilent : s.Silent t)

/-- The effect does not read the timer, the upload buffer, the ports or the events of the state before. -/
theorem StepEffect.of_unread {s t : State} {n : Nat} {buf : List Byte} {o : Outputs} {evs : List Event}
    (h : StepEffect { s with timer := n, upBuf := buf, out := o, events := evs } t) : StepEffect s t := by
  cases h with
  | stays hstate hactive hresolve hsilent => exact .stays hstate hactive hresolve hsilent
  | issued op hpasses hstate hrespond hresolve hsends => exact .issued op hpasses hstate hrespond hresolve hsends
  | reissued hactive hstate hresolve hsends => exact .reissued hactive hstate hresolve hsends
  | failed e hactive hended hstate hresolve hsilent => exact .failed e hactive hended hstate hresolve hsilent
  | acknowledged bytes hbytes hactive hended hstate hresolve hsilent =>
    exact .acknowledged bytes hbytes hactive hended hstate hresolve hsilent

theorem ignored_effect (s : State) : StepEffect s s.ignored := .stays rfl rfl rfl ⟨rfl, rfl, rfl⟩

/-- A response alone is no part of a transaction. -/
theorem respond_effect (s : State) (v : Response) : StepEffect s (s.quiet.respond v) :=
  .stays rfl rfl rfl ⟨rfl, rfl, rfl⟩

/-! ### A transaction begins (R141, R191) -/

theorem accept_sends {op : CtrlOp} {s : State} (hcontract : op.contractHolds = true) : s.Sends op (accept op s) := by
  refine ⟨hcontract, ?_, accept_sendCtr op s, accept_lastCtr op s, accept_active op s, accept_timer op s⟩
  rw [accept_out]

/-- An operation that passes the tests of R140 is issued. -/
theorem accept_effect {op : CtrlOp} {s : State} (h : refusal op s = none) :
    StepEffect s ((accept op s.quiet).respond .accepted) := by
  obtain ⟨-, -, hcontract⟩ := (refusal_eq_none_iff op s).1 h
  exact .issued op h (accept_state op s.quiet) rfl (by simp) (accept_sends (s := s.quiet) hcontract)

theorem present_effect (op : CtrlOp) (s : State) : StepEffect s (present op s) := by
  rcases present_cases op s with ⟨-, he⟩ | ⟨-, e, -, he⟩ | ⟨-, hpasses, he⟩
  · rw [he]; exact ignored_effect s
  · rw [he]; exact respond_effect s _
  · rw [he]; exact accept_effect hpasses

/-- The attempt of a host's `RETRY`: its operation is accepted as if presented bare, or refused (R191). -/
theorem attempt_sync_effect (left : Nat) (op : CtrlOp) (times : Byte) (acc : KindSet) (s : State) :
    StepEffect s (attempt true left { s.quiet with rOp := op, rLeft := times, rAccept := acc }) := by
  rcases attempt_cases true left { s.quiet with rOp := op, rLeft := times, rAccept := acc } with
    ⟨hpasses, he⟩ | ⟨e, n, -, he⟩
  · obtain ⟨-, -, hcontract⟩ := (refusal_eq_none_iff _ _).1 hpasses
    rw [he]
    exact .issued op hpasses (by simp) rfl (by simp)
      (accept_sends (s := { s.quiet with rOp := op, rLeft := times, rAccept := acc }) hcontract)
  · rw [he]
    exact .stays rfl rfl rfl ⟨rfl, rfl, rfl⟩

theorem exec_retry_effect (op : CtrlOp) (times : Byte) (acc : KindSet) (s : State) :
    ∃ t, exec (.retry op times acc) s = .next t ∧ StepEffect s t := by
  rcases exec_retry_cases op times acc s with ⟨-, he⟩ | ⟨-, -, he⟩ | ⟨-, -, he⟩
  · exact ⟨_, he, ignored_effect s⟩
  · exact ⟨_, he, respond_effect s _⟩
  · exact ⟨_, he, attempt_sync_effect _ op times acc s⟩

/-! ### A transaction ends (R173, R176, R192) -/

/-- A wrapped operation whose transaction has been cleared passes the tests of R140 again: it is back in the state it was
entered from, and its contract held before (R14, R193). -/
theorem refusal_of_cleared_wrapper {s : State} (hwrap : s.WrapperOutstanding) (hr : s.rActive = true) (left : Byte) :
    refusal s.rOp { s with state := s.state.enteredFrom, active := false, timer := 0, rLeft := left } = none := by
  obtain ⟨-, -, hstate, hcontract, -⟩ := hwrap hr
  refine (refusal_eq_none_iff _ _).2 ⟨rfl, ?_, hcontract⟩
  rw [hstate, enteredFrom_waitingState]

/-- A failing transaction is the host's result, or the arbiter issues the wrapped operation again. -/
theorem fail_effect (e : Err) {s : State} (ha : s.active = true) (hwrap : s.WrapperOutstanding) (hout : s.out = {}) :
    StepEffect s (fail e s) := by
  rw [fail_eq]
  rcases deliver_cases (.err e) { s with state := s.state.enteredFrom, active := false, timer := 0 } with
    ⟨b, he, -⟩ | ⟨-, -, -, hr, -, -, he⟩
  · rw [he]
    exact .failed e ha rfl rfl rfl ⟨congrArg Outputs.tx hout, rfl, rfl⟩
  · obtain ⟨-, -, hstate, hcontract, -⟩ := hwrap hr
    rw [he, attempt_accepted (refusal_of_cleared_wrapper hwrap hr _)]
    exact .reissued ha (by simp [hstate]) (by simp [hout])
      (accept_sends (s := { s with state := s.state.enteredFrom, active := false, timer := 0, rLeft := s.rLeft - 1 })
        hcontract)

/-- A success goes to the host, wrapper or none (R192). -/
theorem succeed_effect (bytes : List Byte) {s : State} (hbytes : s.state ≠ .uploading → bytes = [])
    (ha : s.active = true) (hout : s.out = {}) : StepEffect s (succeed bytes s) := by
  rw [succeed_eq]
  rcases deliver_cases (.ok bytes) { s with state := s.state.ackState, active := false, timer := 0 } with
    ⟨b, he, -⟩ | ⟨e, hok, -⟩
  · rw [he]
    exact .acknowledged bytes hbytes ha rfl rfl rfl ⟨congrArg Outputs.tx hout, rfl, rfl⟩
  · exact nomatch hok

/-- With an abandoned wrapper every result is the host's (R193, R194). -/
theorem abandonRetry_rActive {s : State} (h : s.WrapperOutstanding) : s.abandonRetry.rActive = false := by
  unfold State.abandonRetry
  split
  · rfl
  · next hretry =>
    rw [← Bool.not_eq_true]
    intro hr
    obtain ⟨-, hretry', -⟩ := h hr
    exact hretry hretry'

/-- `CANCEL` responds and, with a transaction outstanding, fails it for the host (R180). -/
theorem exec_cancel_effect {s : State} (h : s.WrapperOutstanding) :
    ∃ t, exec .cancel s = .next t ∧ StepEffect s t := by
  rcases exec_cancel_cases s with ⟨-, he⟩ | ⟨-, ha, he⟩ | ⟨-, -, he⟩
  · exact ⟨_, he, ignored_effect s⟩
  · rw [fail_transparent (abandonRetry_rActive (s := s.quiet) h)] at he
    exact ⟨_, he, .failed .cancelled ha rfl (by simp) rfl (by simp [State.Silent])⟩
  · exact ⟨_, he, .stays (by simp) (by simp) (by simp) (by simp [State.Silent])⟩

/-! ### Each input event -/

theorem uploadReply_effect (f : Frame) {s : State} (hs : s.state = .uploading) (ha : s.active = true)
    (hout : s.out = {}) : StepEffect s (uploadReply f s) := by
  obtain ⟨buf, -, ⟨-, he⟩ | ⟨-, he⟩⟩ := uploadReply_cases f s
  · rw [he]
    exact (succeed_effect (s := { s with upBuf := buf }) buf (absurd hs) ha hout).of_unread
  · rw [he]
    exact .stays rfl rfl (congrArg Outputs.resolve hout) ⟨congrArg Outputs.tx hout, rfl, rfl⟩

theorem rxStep_effect (f : Frame) {s : State} (h : s.WrapperOutstanding) : StepEffect s (rxStep f s) := by
  cases hc : s.cfg.hasController with
  | false => rw [rxStep_absent hc]; exact ignored_effect s
  | true =>
    rcases rxStep_cases f hc with ⟨e, -, ha, he⟩ | ⟨e, -, -, he⟩ | ⟨hmatch, -, he⟩ | ⟨hmatch, hs, he⟩
    · rw [he]
      exact (fail_effect (s := s.quiet) e ha h rfl).of_unread
    · rw [he]
      exact .stays rfl rfl rfl ⟨rfl, rfl, rfl⟩
    · obtain ⟨-, -, -, -, ha, -⟩ := (rxError_eq_none_iff s f).1 hmatch
      rw [he]
      exact (succeed_effect (s := s.quiet) [] (fun _ => rfl) ha rfl).of_unread
    · obtain ⟨-, -, -, -, ha, -⟩ := (rxError_eq_none_iff s f).1 hmatch
      rw [he]
      exact (uploadReply_effect (s := s.quiet) f hs ha rfl).of_unread

theorem tickStep_effect {s : State} (h : s.WrapperOutstanding) : StepEffect s (tickStep s) := by
  rcases tickStep_cases s with ⟨-, ha, -, he⟩ | ⟨-, -, -, he⟩ | ⟨-, he⟩
  · rw [he]
    exact .of_unread (s := s) (fail_effect (s := { s.quiet with timer := s.timer - 1 }) .requestTimeout ha h rfl)
  · rw [he]
    exact .stays rfl rfl rfl ⟨rfl, rfl, rfl⟩
  · rw [he]
    exact .stays rfl rfl rfl ⟨rfl, rfl, rfl⟩

theorem otherEvent_effect {e : Event} (he : e ≠ .reset) {s : State} (h : s.WrapperOutstanding) :
    StepEffect s (otherEvent e s) := by
  cases e with
  | op sel args => exact ignored_effect s
  | rx f => exact rxStep_effect f h
  | tick => exact tickStep_effect h
  | reset => exact absurd rfl he

/-- An operation of the CRC unit puts out no more than a response (R104 to R107). -/
theorem crcOperation_effect {i : Instr} (hcrc : isCrcOperation i = true) (s : State) :
    ∃ t, exec i s = .next t ∧ StepEffect s t := by
  cases i with
  | crcSeed mask => exact ⟨_, rfl, .stays rfl rfl rfl ⟨rfl, rfl, rfl⟩⟩
  | crcLoad lane v => cases lane <;> exact ⟨_, rfl, .stays rfl rfl rfl ⟨rfl, rfl, rfl⟩⟩
  | crcUpdate mask b => exact ⟨_, rfl, .stays rfl rfl rfl ⟨rfl, rfl, rfl⟩⟩
  | crcRead lane => exact ⟨_, rfl, respond_effect s _⟩
  | _ => cases hcrc

theorem exec_effect (i : Instr) {s : State} (h : s.WrapperOutstanding) : ∃ t, exec i s = .next t ∧ StepEffect s t := by
  cases instrKind s.cfg i with
  | wire f hwf hexec => exact ⟨_, hexec s rfl, rxStep_effect f h⟩
  | operation op => exact ⟨_, exec_toInstr op s, present_effect op s⟩
  | cancel => exact exec_cancel_effect h
  | retry op times acc => exact exec_retry_effect op times acc s
  | codec v hwf hexec => exact ⟨_, hexec s rfl, respond_effect s v⟩
  | crc hwf hcrc => exact crcOperation_effect hcrc s

/-- What a step outside RESET can do, whenever a wrapper stands for an outstanding transaction (R193). -/
theorem step_effect {s t : State} (h : s.WrapperOutstanding) (hreset : s.NotReset) (hstep : step s = .next t) :
    StepEffect s t := by
  cases hev : s.events with
  | nil =>
    cases hstep.symm.trans (step_no_event hev)
    exact ignored_effect s
  | cons e rest =>
    cases hd : decode s.cfg e with
    | ok i =>
      obtain ⟨t', he, heffect⟩ := exec_effect i (s := { s with events := rest }) h
      cases hstep.symm.trans ((step_instruction hev hd).trans he)
      exact heffect.of_unread
    | error r =>
      have hne : e ≠ .reset := by
        rintro rfl
        exact hreset (by rw [hev]; rfl)
      cases hstep.symm.trans (step_other hev hd)
      exact (otherEvent_effect hne (s := { s with events := rest }) h).of_unread

/-- The same from the whole invariant, with R16: an outstanding transaction is a waiting state. -/
theorem State.Inv.step_effect {s t : State} (h : s.Inv) (hreset : s.NotReset) (hstep : step s = .next t) :
    StepEffect s t ∧ s.active = s.state.waiting := by
  obtain ⟨-, hactive, -, -, -, hwrap, -⟩ := h
  exact ⟨Machine.step_effect hwrap hreset hstep, hactive⟩

/-! ### The register `state` (R14, R183, R284) -/

/-- The transitions of R183. -/
abbrev HandlerState.MovesTo (a b : HandlerState) : Prop :=
  b = a ∨
    (a = .idle ∧ b = .connecting) ∨
    (a = .connecting ∧ (b = .connected ∨ b = .idle)) ∨
    (a = .connected ∧ b.waiting = true ∧ b ≠ .connecting) ∨
    (a = .disconnecting ∧ (b = .idle ∨ b = .connected)) ∨
    (a.waiting = true ∧ a ≠ .connecting ∧ a ≠ .disconnecting ∧ b = .connected)

theorem movesTo_waitingState (op : CtrlOp) : op.allowedFrom.MovesTo op.waitingState := by
  cases op with
  | connect station => exact .inr (.inl ⟨rfl, rfl⟩)
  | _ => exact .inr (.inr (.inr (.inl ⟨rfl, rfl, nofun⟩)))

theorem movesTo_enteredFrom {a : HandlerState} (h : a.waiting = true) : a.MovesTo a.enteredFrom := by
  cases a with
  | idle => cases h
  | connected => cases h
  | connecting => exact .inr (.inr (.inl ⟨rfl, .inr rfl⟩))
  | disconnecting => exact .inr (.inr (.inr (.inr (.inl ⟨rfl, .inr rfl⟩))))
  | _ => exact .inr (.inr (.inr (.inr (.inr ⟨rfl, nofun, nofun, rfl⟩))))

theorem movesTo_ackState {a : HandlerState} (h : a.waiting = true) : a.MovesTo a.ackState := by
  cases a with
  | idle => cases h
  | connected => cases h
  | connecting => exact .inr (.inr (.inl ⟨rfl, .inl rfl⟩))
  | disconnecting => exact .inr (.inr (.inr (.inr (.inl ⟨rfl, .inl rfl⟩))))
  | _ => exact .inr (.inr (.inr (.inr (.inr ⟨rfl, nofun, nofun, rfl⟩))))

theorem enteredFrom_eq_idle_iff (a : HandlerState) : a.enteredFrom = .idle ↔ a = .connecting := by
  cases a <;> decide

theorem ackState_eq_idle_iff (a : HandlerState) : a.ackState = .idle ↔ a = .disconnecting := by
  cases a <;> decide

theorem waitingState_ne_idle (op : CtrlOp) : op.waitingState ≠ .idle := by
  intro h
  have hwaiting := waiting_waitingState op
  rw [h] at hwaiting
  cases hwaiting

/-- Settles O51: by what the step did; a transaction that ends was in a waiting state. -/
theorem stateMovesOnlyAlongItsTransitions : Obligations.StateMovesOnlyAlongItsTransitions := by
  unfold Obligations.StateMovesOnlyAlongItsTransitions
  intro s t hinv hreset hstep
  show s.state.MovesTo t.state ∧ _
  obtain ⟨heffect, hwaits⟩ := hinv.step_effect hreset hstep
  cases heffect with
  | stays hstate => exact ⟨.inl hstate, fun _ hne => absurd hstate hne⟩
  | reissued _ hstate => exact ⟨.inl hstate, fun _ hne => absurd hstate hne⟩
  | issued op hpasses hstate hrespond _ hsends =>
    obtain ⟨-, hfrom, -⟩ := (refusal_eq_none_iff op s).1 hpasses
    obtain ⟨-, htx, -⟩ := hsends
    refine ⟨?_, fun _ _ => ⟨hrespond, by simp [htx]⟩⟩
    rw [hfrom, hstate]
    exact movesTo_waitingState op
  | failed e hactive _ hstate =>
    have hwaiting := hwaits.symm.trans hactive
    refine ⟨?_, fun hstable => nomatch hstable.symm.trans hwaiting⟩
    rw [hstate]
    exact movesTo_enteredFrom hwaiting
  | acknowledged bytes _ hactive _ hstate =>
    have hwaiting := hwaits.symm.trans hactive
    refine ⟨?_, fun hstable => nomatch hstable.symm.trans hwaiting⟩
    rw [hstate]
    exact movesTo_ackState hwaiting

/-- Settles O52: of the five effects only a failure and an acknowledgement can enter `idle`. -/
theorem idleIsEnteredOnlyByDisconnectOrFailedConnect : Obligations.IdleIsEnteredOnlyByDisconnectOrFailedConnect := by
  unfold Obligations.IdleIsEnteredOnlyByDisconnectOrFailedConnect
  intro s t hinv hreset hstep hidle hnotIdle
  obtain ⟨heffect, -⟩ := hinv.step_effect hreset hstep
  cases heffect with
  | stays hstate => exact absurd (hstate.symm.trans hidle) hnotIdle
  | reissued _ hstate => exact absurd (hstate.symm.trans hidle) hnotIdle
  | issued op _ hstate => exact absurd (hstate.symm.trans hidle) (waitingState_ne_idle op)
  | failed e _ _ hstate hresolve =>
    exact .inr ⟨(enteredFrom_eq_idle_iff _).1 (hstate.symm.trans hidle), e, hresolve⟩
  | acknowledged bytes hbytes _ _ hstate hresolve =>
    have hdisconnecting := (ackState_eq_idle_iff _).1 (hstate.symm.trans hidle)
    have hempty : bytes = [] := hbytes (by rw [hdisconnecting]; decide)
    exact .inl ⟨hdisconnecting, hempty ▸ hresolve⟩

/-! ### The frames that leave (R18, R54, R86) -/

theorem length_swapPairs (d : List Byte) : (swapPairs d).length = d.length := by
  induction d using swapPairs.induct with
  | case1 a b rest ih => simp [swapPairs, ih]
  | case2 rest hrest => rw [swapPairs.eq_2 rest hrest]

/-- An operation within its contract builds a payload that fits the window of a command (R62, R130, R146, R147). -/
theorem length_payload_le {op : CtrlOp} (h : op.contractHolds = true) (c : Config) :
    (op.payload c).length ≤ cmdWindow := by
  cases op with
  | download d =>
    obtain ⟨hlen, -⟩ := (contractHolds_download_iff d).1 h
    show (swapPairs d).length + 1 ≤ 6
    rw [length_swapPairs]
    omega
  | download6 d =>
    have hlen := (contractHolds_download6_iff d).1 h
    show (swapPairs d).length ≤ 6
    rw [length_swapPairs]
    omega
  | _ => exact Nat.le_of_ble_eq_true rfl

/-- A payload that fits its window is padded to a frame of 8 bytes (R60, R65). -/
theorem length_commandFrame (c : Config) (code ctr : Byte) {p : List Byte} (h : p.length ≤ cmdWindow) :
    (commandFrame c code ctr p).data.length = 8 := by
  have hwindow : cmdWindow = 6 := rfl
  simp only [commandFrame, zeros, List.length_append, List.length_cons, List.length_nil, List.length_replicate]
  omega

/-- Settles O53: a frame leaves in the two effects that issue an operation, and in no other. -/
theorem transmissionConsumesOneCounterValue : Obligations.TransmissionConsumesOneCounterValue := by
  unfold Obligations.TransmissionConsumesOneCounterValue
  intro s t hinv hreset hstep
  obtain ⟨heffect, -⟩ := hinv.step_effect hreset hstep
  have hsent_or_silent : (∃ op, s.Sends op t) ∨ s.Silent t := by
    cases heffect with
    | stays _ _ _ hsilent => exact .inr hsilent
    | issued op _ _ _ _ hsends => exact .inl ⟨op, hsends⟩
    | reissued _ _ _ hsends => exact .inl ⟨s.rOp, hsends⟩
    | failed _ _ _ _ _ hsilent => exact .inr hsilent
    | acknowledged _ _ _ _ _ _ hsilent => exact .inr hsilent
  rcases hsent_or_silent with ⟨op, hcontract, htx, hsend, hlast, hactive, htimer⟩ | ⟨htx, hcounters⟩
  · refine ⟨fun f hf => ?_, fun hnone => nomatch htx.symm.trans hnone⟩
    cases htx.symm.trans hf
    exact ⟨rfl, rfl, length_commandFrame _ _ _ (length_payload_le hcontract _), rfl, hsend, hlast, hactive, op.code,
      rfl, htimer⟩
  · exact ⟨fun f hf => (nomatch htx.symm.trans hf), fun _ => hcounters⟩

end Sys2Proof.Machine

/-!
## The state after reset (R26)
-/

namespace Sys2Proof.Machine

/-- Settles O44: each register by its value in `State.reset`. -/
theorem resetStateIsR26 : Obligations.ResetStateIsR26 :=
  ⟨rfl, rfl, rfl, rfl, rfl, rfl, rfl, rfl, rfl, rfl⟩

/-- TESTCFG meets the constraints R2 to R5. -/
theorem config_test_valid : Config.test.Valid := by decide

/-- Settles O48: nothing is outstanding after reset and no wrapper is set, so the controller's part is the invariant. -/
theorem resetStateMeetsInvariant : Obligations.ResetStateMeetsInvariant :=
  State.ControllerInv.inv
    ⟨config_test_valid, rfl, ⟨nofun, fun _ => rfl⟩, nofun, ⟨Nat.zero_le _, nofun⟩, fun _ => rfl⟩ rfl

end Sys2Proof.Machine

/-!
## A step and the instruction its event decodes to (R50, R182)
-/

namespace Sys2Proof.Machine

/-- Settles O6: the step's equation for an event that decodes. -/
theorem stepRunsDecodedInstruction : Obligations.StepRunsDecodedInstruction :=
  fun _ _ _ _ hevents hdecode => step_instruction hevents hdecode

end Sys2Proof.Machine

/-!
## Exchanging the bytes of a string in pairs (R44)
-/

namespace Sys2Proof.Machine

/-- The two bytes of every whole pair change places, in a string of odd length too. -/
theorem getElem?_swapPairs (d : List Byte) (k : Nat) (h : 2 * k + 1 < d.length) :
    (swapPairs d)[2 * k]? = d[2 * k + 1]? ∧ (swapPairs d)[2 * k + 1]? = d[2 * k]? := by
  induction d using swapPairs.induct generalizing k with
  | case1 a b rest ih =>
    cases k with
    | zero => exact ⟨rfl, rfl⟩
    | succ k =>
      have hk : 2 * k + 1 < rest.length := by
        simp only [List.length_cons] at h
        omega
      exact ih k hk
  | case2 rest hrest =>
    match rest with
    | [] | [_] => simp at h
    | a :: b :: rest => exact absurd rfl (hrest a b rest)

/-- Settles O22: the length is kept, and every pair of positions below an even length is a whole pair. -/
theorem swapPairsExchangesPairs : Obligations.SwapPairsExchangesPairs :=
  fun d _ => ⟨length_swapPairs d, getElem?_swapPairs d⟩

end Sys2Proof.Machine

/-!
## The frame of a command is its row of the opcode table (R62, R69 to R78)
-/

namespace Sys2Proof

theorem lookupCode_code {c : Config} (h : c.codes.Nodup) (m : CommandCode) : lookupCode c (c.code.get m) = some m :=
  (lookupCode_iff h _ m).2 rfl

/-- The row of a command code, its fields read from the window that follows code and counter (R62, R69 to R78). -/
def commandRow (id : CanId) (ext : Bool) (ctr : Byte) (window : List Byte) : CommandCode → Instr
  | .connect => .wireConnect id ext ctr (window.getD 0 0) (ofBytes 40 (window.drop 1))
  | .setMta => .wireSetMta id ext ctr (window.getD 0 0) (window.getD 1 0) (ofBytes 32 (window.drop 2))
  | .download => .wireDownload id ext ctr (window.getD 0 0) (ofBytes 40 (window.drop 1))
  | .upload => .wireUpload id ext ctr (window.getD 0 0) (ofBytes 40 (window.drop 1))
  | .disconnect => .wireDisconnect id ext ctr (ofBytes 48 window)
  | .buildChecksum => .wireBuildChecksum id ext ctr (ofBytes 32 (window.take 4)) (ofBytes 16 (window.drop 4))
  | .clearMemory => .wireClearMemory id ext ctr (ofBytes 32 (window.take 4)) (ofBytes 16 (window.drop 4))
  | .unlock =>
    .wireUnlock id ext ctr (window.getD 0 0) (ofBytes 16 ((window.drop 1).take 2)) (ofBytes 24 (window.drop 3))
  | .actionService => .wireActionService id ext ctr (ofBytes 48 window)
  | .download6 => .wireDownload6 id ext ctr (ofBytes 48 window)

/-- The decoder reads a frame that a member's code leads as the row of that member: by R2 the code is no reply marker,
and by R3 no other member's. -/
theorem decodeWire_hcFrame {c : Config} (hv : c.Valid) (m : CommandCode) (id : CanId) (ext : Bool) (ctr : Byte)
    {window : List Byte} (hlen : window.length = cmdWindow) :
    decodeWire c (hcFrame id ext (c.code.get m) ctr window) = .ok (commandRow id ext ctr window m) := by
  obtain ⟨hnodup, hmarker, -⟩ := hv
  match window, hlen with
  | [d2, d3, d4, d5, d6, d7], _ =>
    simp only [decodeWire, hcFrame, if_neg (code_ne_replyMarker hmarker m), lookupCode_code hnodup m]
    cases m <;> rfl

end Sys2Proof

namespace Sys2Proof.Machine

/-- The window of a command frame: the payload, padded with zeros (R65). -/
def paddedPayload (c : Config) (op : CtrlOp) : List Byte :=
  op.payload c ++ zeros (cmdWindow - (op.payload c).length)

theorem commandFrame_payload (c : Config) (code ctr : Byte) (op : CtrlOp) :
    commandFrame c code ctr (op.payload c) = hcFrame c.idHost true code ctr (paddedPayload c op) := rfl

theorem length_paddedPayload {op : CtrlOp} (h : op.contractHolds = true) (c : Config) :
    (paddedPayload c op).length = cmdWindow := by
  have hfits := length_payload_le h c
  simp only [paddedPayload, zeros, List.length_append, List.length_replicate]
  omega

/-- The fields of an operation's window are its operands (R142 to R150); an operation within its contract fills it. -/
theorem commandRow_paddedPayload {op : CtrlOp} (h : op.contractHolds = true) (c : Config) (ctr : Byte) :
    commandRow c.idHost true ctr (paddedPayload c op) op.code = transmittedRow c ctr op := by
  cases op with
  | connect station => rfl
  | disconnect => rfl
  | setMta e a => exact congrArg (Instr.wireSetMta c.idHost true ctr 0 (c.extByte e)) (ofBytes_be32 a)
  | unlock p => exact congrArg (Instr.wireUnlock c.idHost true ctr 2 · 0) (ofBytes_be16 (c.passwordValue p))
  | download d =>
    have hwindow : cmdWindow - ((CtrlOp.download d).payload c).length = 5 - d.length := by
      show 6 - ((swapPairs d).length + 1) = 5 - d.length
      rw [length_swapPairs]
      omega
    simp only [paddedPayload, hwindow]
    rfl
  | download6 d =>
    have hwindow : cmdWindow - ((CtrlOp.download6 d).payload c).length = 0 := by
      show 6 - (swapPairs d).length = 0
      rw [length_swapPairs, (contractHolds_download6_iff d).1 h]
    simp only [paddedPayload, hwindow]
    exact congrArg (Instr.wireDownload6 c.idHost true ctr <| ofBytes 48 ·) (List.append_nil (swapPairs d))
  | upload n block => rfl
  | buildChecksum k len =>
    exact congrArg₂ (Instr.wireBuildChecksum c.idHost true ctr) (ofBytes_be32 len) (ofBytes_be16 k)
  | clearMemory => rfl

/-- The command frame of an operation within its contract decodes as the operation's row. -/
theorem decodeWire_commandFrame {c : Config} (hv : c.Valid) {op : CtrlOp} (h : op.contractHolds = true) (ctr : Byte) :
    decodeWire c (commandFrame c (c.code.get op.code) ctr (op.payload c)) = .ok (transmittedRow c ctr op) := by
  rw [commandFrame_payload, decodeWire_hcFrame hv op.code _ _ _ (length_paddedPayload h c), commandRow_paddedPayload h]

/-- A controller operation transmits a frame only when it is accepted, and then it is the command frame of the
operation, within its contract (R140, R141). -/
theorem present_tx {op : CtrlOp} {s : State} {f : Frame} (h : (present op s).out.tx = some f) :
    op.contractHolds = true ∧ f = commandFrame s.cfg (s.cfg.code.get op.code) s.sendCtr (op.payload s.cfg) := by
  rcases present_cases op s with ⟨-, he⟩ | ⟨-, e, -, he⟩ | ⟨-, hpasses, he⟩
  · rw [he] at h
    cases h
  · rw [he] at h
    cases h
  · obtain ⟨-, -, hcontract⟩ := (refusal_eq_none_iff op s).1 hpasses
    obtain ⟨-, htx, -⟩ := accept_sends (s := s.quiet) hcontract
    rw [he] at h
    exact ⟨hcontract, Option.some.inj (h.symm.trans htx)⟩

/-- Settles O33: the frame that leaves is the operation's command frame, which decodes as the operation's row. -/
theorem transmittedFramesAreTableRows : Obligations.TransmittedFramesAreTableRows := by
  unfold Obligations.TransmittedFramesAreTableRows
  intro op s t f hv hexec htx
  cases hexec.symm.trans (exec_toInstr op s)
  obtain ⟨hcontract, rfl⟩ := present_tx htx
  exact decodeWire_commandFrame hv hcontract s.sendCtr

end Sys2Proof.Machine

/-!
## The operation port: selectors and words of the table (R90)
-/

namespace Sys2Proof.Machine

/-- A selector outside R90's table selects no operation, whatever the operands. -/
theorem decodeOp_noSuchSelector {sel : Byte} (h : sel.toNat ∉ Laws.selectors.map BitVec.toNat) (args : List Operand) :
    decodeOp sel args = .error (.noSuchSelector sel) := by
  unfold decodeOp
  split
  case h_19 => rfl
  all_goals
    next hsel =>
      rw [hsel] at h
      exact absurd (by decide) h

/-- An event at the operation port that decodes to nothing is taken, and nothing else happens (R90, U8). -/
theorem step_undecoded_op {s : State} {sel : Byte} {args : List Operand} {rest : List Event} {r : DecodeError}
    (h : s.events = .op sel args :: rest) (hd : decodeOp sel args = .error r) :
    step s = .next { s with events := rest, out := {} } :=
  step_other h hd

/-- Settles O4: the 18 operations are the rows of the decoder's table, any other selector is refused by it. -/
theorem operationPortSelectsByOpsel : Obligations.OperationPortSelectsByOpsel :=
  ⟨fun _ => rfl, fun _ => ⟨rfl, rfl⟩, fun _ _ => rfl, ⟨rfl, rfl⟩,
    fun _ _ _ => rfl, fun _ _ _ => rfl, fun _ => rfl,
    fun _ => rfl, rfl, fun _ _ => rfl, fun _ => rfl, fun _ => rfl, fun _ => rfl, fun _ _ => rfl, fun _ _ => rfl, rfl,
    rfl, fun _ _ _ => rfl,
    fun _ _ args _ hevents hsel => step_undecoded_op hevents (decodeOp_noSuchSelector hsel args)⟩

/-- Settles O3: each word by evaluating the decoder. -/
theorem specWordsDecode : Obligations.SpecWordsDecode :=
  ⟨rfl, rfl, rfl, rfl, rfl, rfl, rfl, rfl⟩

end Sys2Proof.Machine

/-!
## The arithmetic of the CRC: one iteration, one byte, a string (R101 to R103)

An iteration is linear over exclusive-or, so the linearity law and the table form follow from how it acts on a value
whose low bits are clear: there it only shifts.
-/

namespace Sys2Proof.Machine

/-! ### One iteration and several (R101) -/

theorem crcShift_eq_xor (c : Half) : crcShift c = (c >>> 1) ^^^ (if c.getLsbD 0 = true then crcPoly else 0) := by
  unfold crcShift
  split
  · rfl
  · exact BitVec.xor_zero.symm

/-- The iteration as R101 words its test: on the parity of the value before the shift. -/
theorem crcShift_eq_parity (c : Half) :
    crcShift c = if c.toNat % 2 = 1 then (c >>> 1) ^^^ 0xA001#16 else c >>> 1 := by
  have hbit : c.getLsbD 0 = true ↔ c.toNat % 2 = 1 := by simp [BitVec.getLsbD, Nat.testBit_zero]
  exact if_congr hbit rfl rfl

theorem crcShift_xor (a b : Half) : crcShift (a ^^^ b) = crcShift a ^^^ crcShift b := by
  have hpoly : ∀ p q : Bool, (if (p ^^ q) = true then crcPoly else 0) =
      (if p = true then crcPoly else 0) ^^^ (if q = true then crcPoly else 0) := by decide
  simp only [crcShift_eq_xor, BitVec.getLsbD_xor, BitVec.ushiftRight_xor_distrib, hpoly]
  ac_rfl

theorem crcShifts_eq_iterate (n : Nat) (c : Half) : crcShifts n c = crcShift^[n] c := by
  induction n generalizing c with
  | zero => rfl
  | succ n ih => exact ih (crcShift c)

theorem crcShifts_xor (n : Nat) (a b : Half) : crcShifts n (a ^^^ b) = crcShifts n a ^^^ crcShifts n b := by
  induction n generalizing a b with
  | zero => rfl
  | succ n ih => simp only [crcShifts, crcShift_xor, ih]

/-- While the bit that is shifted out is 0, an iteration is a shift and nothing more. -/
theorem crcShifts_of_low_bits_clear {n : Nat} {c : Half} (h : ∀ i < n, c.getLsbD i = false) :
    crcShifts n c = c >>> n := by
  induction n generalizing c with
  | zero => exact (BitVec.ushiftRight_zero c).symm
  | succ n ih =>
    have hshift : crcShift c = c >>> 1 := by
      rw [crcShift_eq_xor, h 0 (Nat.succ_pos n)]
      exact BitVec.xor_zero
    have hclear : ∀ i < n, (c >>> 1).getLsbD i = false := by
      intro i hi
      rw [BitVec.getLsbD_ushiftRight]
      exact h (1 + i) (by omega)
    rw [crcShifts, hshift, ih hclear, ← BitVec.shiftRight_add, Nat.add_comm]

/-! ### One byte (R101, R103) -/

theorem crcStep_xor (c c' : Half) (b b' : Byte) :
    crcStep (c ^^^ c') (b ^^^ b') = crcStep c b ^^^ crcStep c' b' := by
  have hswap : c ^^^ c' ^^^ (b ^^^ b').setWidth 16 = (c ^^^ b.setWidth 16) ^^^ (c' ^^^ b'.setWidth 16) := by
    rw [BitVec.setWidth_xor]
    ac_rfl
  rw [crcStep, hswap, crcShifts_xor, crcStep, crcStep]

theorem half_and_xor_distrib (x y z : Half) : x &&& (y ^^^ z) = (x &&& y) ^^^ (x &&& z) := by
  ext i hi
  simp only [BitVec.getElem_and, BitVec.getElem_xor, Bool.and_xor_distrib_left]

theorem half_eq_high_xor_low (x : Half) : x = (x &&& 0xFF00#16) ^^^ (x &&& 0x00FF#16) :=
  calc x = x &&& (0xFF00#16 ^^^ 0x00FF#16) := BitVec.and_allOnes.symm
    _ = (x &&& 0xFF00#16) ^^^ (x &&& 0x00FF#16) := half_and_xor_distrib x _ _

theorem xor_setWidth_ushiftRight_eight (c : Half) (b : Byte) : (c ^^^ b.setWidth 16) >>> 8 = c >>> 8 := by
  have hbyte : (b.setWidth 16 : Half) >>> 8 = 0#16 := by bv_omega
  rw [BitVec.ushiftRight_xor_distrib, hbyte, BitVec.xor_zero]

/-- The eight iterations only shift the high byte, as no bit of it reaches bit 0 before the last of them. -/
theorem crcShifts_high_byte (x : Half) : crcShifts 8 (x &&& 0xFF00#16) = x >>> 8 := by
  have hmask : ∀ i < 8, (0xFF00#16).getLsbD i = false := by decide
  have hclear : ∀ i < 8, (x &&& 0xFF00#16).getLsbD i = false := by
    intro i hi
    rw [BitVec.getLsbD_and, hmask i hi, Bool.and_false]
  have hlow : (x &&& 0x00FF#16) >>> 8 = 0#16 := by
    rw [BitVec.ushiftRight_and_distrib]
    exact BitVec.and_zero
  calc crcShifts 8 (x &&& 0xFF00#16)
      = (x &&& 0xFF00#16) >>> 8 := crcShifts_of_low_bits_clear hclear
    _ = (x &&& 0xFF00#16) >>> 8 ^^^ (x &&& 0x00FF#16) >>> 8 := by rw [hlow, BitVec.xor_zero]
    _ = x >>> 8 := by rw [← BitVec.ushiftRight_xor_distrib, ← half_eq_high_xor_low]

/-- R103's table form: the table is indexed by the low byte of the exclusive-or. -/
theorem crcStep_eq_table (c : Half) (b : Byte) :
    crcStep c b = (c >>> 8) ^^^ crcShifts 8 ((c ^^^ b.setWidth 16) &&& 0x00FF#16) := by
  rw [crcStep]
  conv_lhs => rw [half_eq_high_xor_low (c ^^^ b.setWidth 16)]
  rw [crcShifts_xor, crcShifts_high_byte, xor_setWidth_ushiftRight_eight]

/-! ### A string (R102, R103) -/

theorem crc16_nil_some (r : Half) : crc16 [] (some r) = r := rfl

theorem crc16_nil_none : crc16 [] none = 0xFFFF#16 := rfl

theorem crc16_cons_some (b : Byte) (s : List Byte) (c : Half) :
    crc16 (b :: s) (some c) = crc16 s (some (crcStep c b)) := rfl

theorem crc16_append (s t : List Byte) (r : Option Half) : crc16 (s ++ t) r = crc16 t (some (crc16 s r)) :=
  List.foldl_append

/-- Settles O14: the model's recursion is the iterate of R101's iteration, and appending a byte is one more step. -/
theorem crcStepIsEightIterations : Obligations.CrcStepIsEightIterations := by
  unfold Obligations.CrcStepIsEightIterations
  refine ⟨fun c b => ?_, crc16_nil_some, crc16_nil_none, fun s b r => crc16_append s [b] r⟩
  rw [← funext crcShift_eq_parity]
  exact crcShifts_eq_iterate 8 _

/-- Settles O15: the laws of the fold, the linearity of one iteration, and the table form that follows from it. -/
theorem crcLawsHold : Obligations.CrcLawsHold :=
  ⟨⟨crc16_nil_some, crc16_nil_none⟩, fun _ => rfl, crc16_append, ⟨crcStep_xor, by decide⟩,
    crcStep_eq_table, by decide, by decide, by decide, by decide, by decide⟩

end Sys2Proof.Machine

/-!
## The operations of the CRC unit (R104 to R108, R110)
-/

namespace Sys2Proof.Machine

/-! ### What each operation does -/

theorem exec_crcSeed (mask : BitVec 2) (s : State) :
    exec (.crcSeed mask) s = .next (s.quiet.mapLanes mask fun _ => crcSeedValue) := rfl

theorem exec_crcLoad (lane : Lane) (v : Half) (s : State) :
    exec (.crcLoad lane v) s = .next (s.quiet.setLane lane v) := rfl

theorem exec_crcUpdate (mask : BitVec 2) (b : Byte) (s : State) :
    exec (.crcUpdate mask b) s = .next (s.quiet.mapLanes mask fun c => crcStep c b) := rfl

theorem exec_crcRead (lane : Lane) (s : State) :
    exec (.crcRead lane) s = .next (s.quiet.respond (.value (s.lane lane))) := rfl

/-- Settles O9: the seed is mapped over the selected lanes. -/
theorem crcSeedSeedsSelectedLanes : Obligations.CrcSeedSeedsSelectedLanes :=
  fun mask s => ⟨{}, exec_crcSeed mask s⟩

/-- Settles O10: each of the two lanes is set. -/
theorem crcLoadWritesItsLane : Obligations.CrcLoadWritesItsLane :=
  fun v s => ⟨⟨{}, exec_crcLoad .zero v s⟩, ⟨{}, exec_crcLoad .one v s⟩⟩

/-- Settles O11: the step with the byte is mapped over the selected lanes. -/
theorem crcUpdateStepsSelectedLanes : Obligations.CrcUpdateStepsSelectedLanes :=
  fun mask b s => ⟨{}, exec_crcUpdate mask b s⟩

/-- Settles O13: each of the two lanes is put on the response port of the quiet state. -/
theorem crcReadRespondsItsLane : Obligations.CrcReadRespondsItsLane :=
  fun s => ⟨exec_crcRead .zero s, exec_crcRead .one s⟩

/-! ### A lane that does not exist (R110) -/

theorem laneOf_eq_none {n : Nat} (h : 2 ≤ n) : laneOf n = none := by
  match n, h with
  | n + 2, _ => rfl

theorem decodeOp_crcLoad_absent {n : Nat} (h : 2 ≤ n) (v : Half) :
    decodeOp 0x01 [.lane n, .half v] = .error (.noSuchLane n) := by
  simp [decodeOp, laneOf_eq_none h]

theorem decodeOp_crcRead_absent {n : Nat} (h : 2 ≤ n) : decodeOp 0x03 [.lane n] = .error (.noSuchLane n) := by
  simp [decodeOp, laneOf_eq_none h]

/-- Settles O5: neither operation decodes with such a lane, so the event is only taken. -/
theorem absentLaneChangesNothing : Obligations.AbsentLaneChangesNothing :=
  fun _ _ v _ hn =>
    ⟨fun hevents => step_undecoded_op hevents (decodeOp_crcLoad_absent hn v),
      fun hevents => step_undecoded_op hevents (decodeOp_crcRead_absent hn)⟩

/-! ### A checksum computed by the machine's steps (R108) -/

/-- A CRC operation is presented at the operation port, which decodes the same under every configuration (R90). -/
theorem decode_encode_crcOperation {i : Instr} (h : isCrcOperation i = true) (c : Config) :
    decode c (encode c i) = .ok i := by
  cases i with
  | crcSeed mask => rfl
  | crcLoad lane v => cases lane <;> rfl
  | crcUpdate mask b => rfl
  | crcRead lane => cases lane <;> rfl
  | _ => cases h

theorem step_crcOperation {s : State} {i : Instr} {rest : List Event} (h : isCrcOperation i = true)
    (hevents : s.events = encode s.cfg i :: rest) : step s = exec i { s with events := rest } :=
  step_instruction hevents (decode_encode_crcOperation h s.cfg)

theorem isCrcOperation_startCrc (lane : Lane) (r : Option Half) : isCrcOperation (startCrc lane r) = true := by
  cases r <;> rfl

theorem mapLanes_laneMask (s : State) (lane : Lane) (g : Half → Half) :
    s.mapLanes (laneMask lane) g = s.setLane lane (g (s.lane lane)) := by
  cases lane <;> rfl

/-- The state while a checksum is computed on one lane: that lane's value so far, the events still to come, empty
ports, and all else as it was. -/
def State.computing (s : State) (lane : Lane) (v : Half) (rest : List Event) : State :=
  State.setLane { s with events := rest, out := {} } lane v

section Computing

variable (s : State) (lane : Lane) (v : Half) (rest : List Event)

theorem computing_cfg : (s.computing lane v rest).cfg = s.cfg := setLane_cfg _ lane v
theorem computing_events : (s.computing lane v rest).events = rest := setLane_events _ lane v
theorem computing_out : (s.computing lane v rest).out = {} := setLane_out _ lane v
theorem computing_lane : (s.computing lane v rest).lane lane = v := lane_setLane_same _ lane v
theorem computing_otherLane : (s.computing lane v rest).lane (otherLane lane) = s.lane (otherLane lane) := by
  cases lane <;> rfl
theorem computing_sameController : s.SameController (s.computing lane v rest) := by
  cases lane <;> exact ⟨rfl, rfl, rfl, rfl, rfl, rfl, rfl⟩
theorem computing_sameArbiter : s.SameArbiter (s.computing lane v rest) := by
  cases lane <;> exact ⟨rfl, rfl, rfl, rfl⟩

end Computing

theorem step_startCrc {s : State} {lane : Lane} {r : Option Half} {rest : List Event}
    (hevents : s.events = encode s.cfg (startCrc lane r) :: rest) :
    step s = .next (s.computing lane (crc16 [] r) rest) := by
  rw [step_crcOperation (isCrcOperation_startCrc lane r) hevents]
  cases r with
  | none => exact congrArg Host.Outcome.next (mapLanes_laneMask _ lane _)
  | some v => exact exec_crcLoad lane v _

theorem step_computing_crcUpdate (s : State) (lane : Lane) (v : Half) (b : Byte) (rest : List Event) :
    step (s.computing lane v (encode s.cfg (.crcUpdate (laneMask lane) b) :: rest)) =
      .next (s.computing lane (crcStep v b) rest) := by
  cases lane <;> rfl

theorem step_computing_crcRead (s : State) (lane : Lane) (v : Half) (rest : List Event) :
    step (s.computing lane v (encode s.cfg (.crcRead lane) :: rest)) =
      .next ((s.computing lane v rest).respond (.value v)) := by
  cases lane <;> rfl

/-- One update per byte takes the lane through the fold of R102. -/
theorem steps_computing_crcUpdates (s : State) (lane : Lane) (v : Half) (bytes : List Byte) (rest : List Event) :
    steps bytes.length
        (s.computing lane v ((bytes.map (Instr.crcUpdate (laneMask lane))).map (encode s.cfg) ++ rest)) =
      .next (s.computing lane (crc16 bytes (some v)) rest) := by
  induction bytes generalizing v with
  | nil => rfl
  | cons b bytes ih =>
    rw [crc16_cons_some]
    exact (steps_succ (step_computing_crcUpdate s lane v b _)).trans (ih (crcStep v b))

/-- Settles O16: the start, the updates by induction on the string, and the read, each from the state that the one
before it leaves. -/
theorem crcOperationsComputeCrc16 : Obligations.CrcOperationsComputeCrc16 := by
  unfold Obligations.CrcOperationsComputeCrc16
  intro s lane bytes r rest hevents
  have hevents : s.events = encode s.cfg (startCrc lane r) ::
      ((bytes.map (Instr.crcUpdate (laneMask lane))).map (encode s.cfg) ++
        (encode s.cfg (.crcRead lane) :: rest)) := by
    rw [hevents]
    simp
  have hresume : crc16 bytes r = crc16 bytes (some (crc16 [] r)) := crc16_append [] bytes r
  have hrun : steps (bytes.length + 2) s =
      .next ((s.computing lane (crc16 bytes r) rest).respond (.value (crc16 bytes r))) := by
    rw [steps_succ (step_startCrc hevents), steps_add (steps_computing_crcUpdates s lane _ bytes _), ← hresume]
    exact steps_one (step_computing_crcRead s lane _ rest)
  refine ⟨_, hrun, ?_, computing_lane s lane _ rest, computing_otherLane s lane _ rest,
    computing_sameController s lane _ rest, computing_sameArbiter s lane _ rest, computing_cfg s lane _ rest,
    computing_events s lane _ rest⟩
  rw [State.respond, computing_out]

end Sys2Proof.Machine

/-!
## The codec (R120 to R130)

`DECODE` is inverted once: a frame decodes to a command or a reply exactly when it is laid out as one. R128's laws are
this equivalence read in its two directions.
-/

namespace Sys2Proof.Machine

/-! ### A codec operation is its response and nothing else (R120) -/

theorem next_afterResponse_inj (s : State) {v w : Response} :
    (.next (s.afterResponse v) : Host.Outcome State Fault Refusal) = .next (s.afterResponse w) ↔ v = w := by
  constructor
  · intro h
    exact Option.some.inj (congrArg (fun t : State => t.out.respond) (Host.Outcome.next.inj h))
  · rintro rfl
    rfl

section Responding

variable {s : State} {v : Response}

theorem exec_encodeCommand_iff {code : CommandCode} {ctr : Byte} {p : List Byte} :
    exec (.encodeCommand code ctr p) s = .next (s.afterResponse v) ↔ encodeCommand s.cfg code ctr p = v :=
  next_afterResponse_inj s

theorem exec_encodeReply_iff {status ctr : Byte} {p : List Byte} :
    exec (.encodeReply status ctr p) s = .next (s.afterResponse v) ↔ encodeReply s.cfg status ctr p = v :=
  next_afterResponse_inj s

theorem exec_decodeFrame_iff {f : Frame} :
    exec (.decodeFrame f) s = .next (s.afterResponse v) ↔ decodePacket s.cfg f = v :=
  next_afterResponse_inj s

end Responding

/-! ### Encoding (R121, R125) -/

section Encoding

variable (c : Config) (code : CommandCode) (status ctr : Byte) {p : List Byte}

theorem encodeCommand_fits (h : p.length ≤ cmdWindow) :
    encodeCommand c code ctr p = .frame (commandFrame c (c.code.get code) ctr p) := if_neg h.not_gt

theorem encodeCommand_tooLong (h : cmdWindow < p.length) : encodeCommand c code ctr p = .err .payloadLength := if_pos h

theorem encodeReply_fits (h : p.length ≤ replyWindow) :
    encodeReply c status ctr p = .frame (replyFrame c status ctr p) := if_neg h.not_gt

theorem encodeReply_tooLong (h : replyWindow < p.length) : encodeReply c status ctr p = .err .payloadLength := if_pos h

/-- A payload that fills the window is not padded (R65). -/
theorem encodeCommand_full (h : p.length = cmdWindow) :
    encodeCommand c code ctr p = .frame (hcFrame c.idHost true (c.code.get code) ctr p) := by
  rw [encodeCommand_fits c code ctr h.le, commandFrame, h, Nat.sub_self]
  simp [zeros, hcFrame]

/-- A payload that fills the window is not padded (R65). -/
theorem encodeReply_full (h : p.length = replyWindow) :
    encodeReply c status ctr p =
      .frame { id := c.idReply, ext := true, data := replyMarker :: status :: ctr :: p } := by
  rw [encodeReply_fits c status ctr h.le, replyFrame, h, Nat.sub_self]
  simp [zeros]

end Encoding

/-- Settles O18: the response of the encoder on either side of the window. -/
theorem encodeCommandBuildsFrame : Obligations.EncodeCommandBuildsFrame := by
  unfold Obligations.EncodeCommandBuildsFrame
  intro code ctr p s
  constructor
  · exact fun hfits => exec_encodeCommand_iff.2 (encodeCommand_fits s.cfg code ctr hfits)
  · exact fun hlong => exec_encodeCommand_iff.2 (encodeCommand_tooLong s.cfg code ctr hlong)

/-- Settles O19: the response of the encoder on either side of the window. -/
theorem encodeReplyBuildsFrame : Obligations.EncodeReplyBuildsFrame := by
  unfold Obligations.EncodeReplyBuildsFrame
  intro status ctr p s
  constructor
  · exact fun hfits => exec_encodeReply_iff.2 (encodeReply_fits s.cfg status ctr hfits)
  · exact fun hlong => exec_encodeReply_iff.2 (encodeReply_tooLong s.cfg status ctr hlong)

/-! ### Decoding (R122 to R124) -/

section Decoding

variable (c : Config) (f : Frame)

theorem decodePacket_wrongLength (h : f.len ≠ frameLen) : decodePacket c f = .err .messageLength := by
  simp [decodePacket, frameError, h]

theorem decodePacket_standard (hlen : f.len = frameLen) (hext : f.ext = false) :
    decodePacket c f = .err .identifierType := by
  simp [decodePacket, frameError, hlen, hext]

theorem decodePacket_extended (hlen : f.len = frameLen) (hext : f.ext = true) :
    decodePacket c f = .packet (packetOf c f) := by
  simp [decodePacket, frameError, hlen, hext]

/-- A packet is the answer for a frame that passes both tests, and for no other. -/
theorem decodePacket_eq_packet_iff (k : Packet) :
    decodePacket c f = .packet k ↔ f.len = frameLen ∧ f.ext = true ∧ packetOf c f = k := by
  by_cases hlen : f.len = frameLen
  · cases hext : f.ext with
    | false => simp [decodePacket_standard c f hlen hext]
    | true => simp [decodePacket_extended c f hlen hext, hlen]
  · simp [decodePacket_wrongLength c f hlen, hlen]

end Decoding

theorem packetOf_reply (c : Config) (id : CanId) (ext : Bool) (status ctr : Byte) (window : List Byte) :
    packetOf c { id := id, ext := ext, data := replyMarker :: status :: ctr :: window } =
      .reply status (lookupStatus c status) ctr window := rfl

theorem packetOf_command (c : Config) (id : CanId) (ext : Bool) {code : Byte} (h : code ≠ replyMarker) (ctr : Byte)
    (window : List Byte) :
    packetOf c (hcFrame id ext code ctr window) = .command code (lookupCode c code) ctr window := if_neg h

/-- The frames that decode to a command: format HC under any identifier, not led by the reply marker (R62, R124). -/
theorem decodePacket_eq_command_iff (c : Config) (f : Frame) (code : Byte) (m : Option CommandCode) (ctr : Byte)
    (p : List Byte) :
    decodePacket c f = .packet (.command code m ctr p) ↔
      p.length = cmdWindow ∧ code ≠ replyMarker ∧ m = lookupCode c code ∧ f = hcFrame f.id true code ctr p := by
  rw [decodePacket_eq_packet_iff]
  constructor
  · rintro ⟨hlen, hext, hpacket⟩
    obtain ⟨id, ext, data⟩ := f
    cases hext
    match data, hlen with
    | d0 :: d1 :: window, hlen =>
      by_cases hd : d0 = replyMarker
      · exact nomatch (if_pos hd).symm.trans hpacket
      · cases (packetOf_command c id true hd d1 window).symm.trans hpacket
        exact ⟨Nat.add_right_cancel (m := 2) hlen, hd, rfl, rfl⟩
  · rintro ⟨hwindow, hcode, rfl, hf⟩
    rw [hf]
    exact ⟨congrArg (· + 2) hwindow, rfl, packetOf_command c f.id true hcode ctr p⟩

/-- The frames that decode to a reply: format BR under any identifier (R63, R124). -/
theorem decodePacket_eq_reply_iff (c : Config) (f : Frame) (status : Byte) (m : Option CommandStatus) (ctr : Byte)
    (p : List Byte) :
    decodePacket c f = .packet (.reply status m ctr p) ↔
      p.length = replyWindow ∧ m = lookupStatus c status ∧
        f = { id := f.id, ext := true, data := replyMarker :: status :: ctr :: p } := by
  rw [decodePacket_eq_packet_iff]
  constructor
  · rintro ⟨hlen, hext, hpacket⟩
    obtain ⟨id, ext, data⟩ := f
    cases hext
    match data, hlen with
    | d0 :: d1 :: d2 :: window, hlen =>
      by_cases hd : d0 = replyMarker
      · subst hd
        cases (packetOf_reply c id true d1 d2 window).symm.trans hpacket
        exact ⟨Nat.add_right_cancel (m := 3) hlen, rfl, rfl⟩
      · exact nomatch (if_neg hd).symm.trans hpacket
  · rintro ⟨hwindow, rfl, hf⟩
    rw [hf]
    exact ⟨congrArg (· + 3) hwindow, rfl, rfl⟩

/-- Settles O20: the two tests, the two layouts, and the lookups of a valid configuration. -/
theorem decodeClassifiesByFirstByte : Obligations.DecodeClassifiesByFirstByte := by
  unfold Obligations.DecodeClassifiesByFirstByte
  refine ⟨fun f s hlen => ?_, fun f s hlen hext => ?_, fun id d1 d2 d3 d4 d5 d6 d7 s => ?_,
    fun id d0 d1 d2 d3 d4 d5 d6 d7 s hd => ?_, fun c x ⟨hcodes, _, hstatuses, _⟩ => ?_⟩
  · exact exec_decodeFrame_iff.2 (decodePacket_wrongLength s.cfg f hlen)
  · exact exec_decodeFrame_iff.2 (decodePacket_standard s.cfg f hlen hext)
  · exact exec_decodeFrame_iff.2 ((decodePacket_eq_reply_iff s.cfg _ _ _ _ _).2 ⟨rfl, rfl, rfl⟩)
  · exact exec_decodeFrame_iff.2 ((decodePacket_eq_command_iff s.cfg _ _ _ _ _).2 ⟨rfl, hd, rfl, rfl⟩)
  · exact ⟨lookupCode_iff hcodes x, lookupStatus_iff hstatuses x⟩

/-! ### The round trips (R128) -/

theorem length_append_zeros {p : List Byte} {n : Nat} (h : p.length ≤ n) :
    (p ++ zeros (n - p.length)).length = n := by
  simp only [zeros, List.length_append, List.length_replicate]
  omega

/-- R128's first law: the payload comes back padded to the window. -/
theorem decodePacket_commandFrame {c : Config} (hv : c.Valid) (code : CommandCode) (ctr : Byte) {p : List Byte}
    (h : p.length ≤ cmdWindow) :
    decodePacket c (commandFrame c (c.code.get code) ctr p) =
      .packet (.command (c.code.get code) (some code) ctr (p ++ zeros (cmdWindow - p.length))) := by
  obtain ⟨hcodes, hmarker, -⟩ := hv
  exact (decodePacket_eq_command_iff c _ _ _ _ _).2
    ⟨length_append_zeros h, code_ne_replyMarker hmarker code, (lookupCode_code hcodes code).symm, rfl⟩

/-- R128's second law. -/
theorem decodePacket_replyFrame (c : Config) (status ctr : Byte) {p : List Byte} (h : p.length ≤ replyWindow) :
    decodePacket c (replyFrame c status ctr p) =
      .packet (.reply status (lookupStatus c status) ctr (p ++ zeros (replyWindow - p.length))) :=
  (decodePacket_eq_reply_iff c _ _ _ _ _).2 ⟨length_append_zeros h, rfl, rfl⟩

/-- R128's third law, for commands: the member found is the one whose code leads the frame. -/
theorem encodeCommand_of_decodePacket {c : Config} {f : Frame} {code ctr : Byte} {m : CommandCode} {p : List Byte}
    (hid : f.id = c.idHost) (h : decodePacket c f = .packet (.command code (some m) ctr p)) :
    encodeCommand c m ctr p = .frame f := by
  obtain ⟨hwindow, -, hm, hf⟩ := (decodePacket_eq_command_iff c f _ _ _ _).1 h
  rw [encodeCommand_full c m ctr hwindow, lookupCode_some hm.symm, ← hid, ← hf]

/-- R128's third law, for replies. -/
theorem encodeReply_of_decodePacket {c : Config} {f : Frame} {status ctr : Byte} {m : Option CommandStatus}
    {p : List Byte} (hid : f.id = c.idReply) (h : decodePacket c f = .packet (.reply status m ctr p)) :
    encodeReply c status ctr p = .frame f := by
  obtain ⟨hwindow, -, hf⟩ := (decodePacket_eq_reply_iff c f _ _ _ _).1 h
  rw [encodeReply_full c status ctr hwindow, ← hid, ← hf]

/-- R128's first law at the instructions. -/
theorem exec_encodeCommand_decodeFrame {s : State} (hv : s.cfg.Valid) (code : CommandCode) (ctr : Byte) {p : List Byte}
    (h : p.length ≤ cmdWindow) :
    ∃ f : Frame, exec (.encodeCommand code ctr p) s = .next (s.afterResponse (.frame f)) ∧
      exec (.decodeFrame f) s = .next (s.afterResponse
        (.packet (.command (s.cfg.code.get code) (some code) ctr (p ++ zeros (cmdWindow - p.length))))) :=
  ⟨_, exec_encodeCommand_iff.2 (encodeCommand_fits s.cfg code ctr h),
    exec_decodeFrame_iff.2 (decodePacket_commandFrame hv code ctr h)⟩

/-- Settles O21: the laws of the codec's functions, at the instructions; the fourth is the first for one byte. -/
theorem codecRoundTrips : Obligations.CodecRoundTrips := by
  unfold Obligations.CodecRoundTrips
  intro s hv
  refine ⟨fun code n p hp => exec_encodeCommand_decodeFrame hv code n hp, fun st n p hp => ?_,
    fun f d code n m p hid _ _ _ _ h => ?_, fun f st n m p hid _ _ _ h => ?_, fun code n b => ?_⟩
  · exact ⟨_, exec_encodeReply_iff.2 (encodeReply_fits s.cfg st n hp),
      exec_decodeFrame_iff.2 (decodePacket_replyFrame s.cfg st n hp)⟩
  · exact exec_encodeCommand_iff.2 (encodeCommand_of_decodePacket hid (exec_decodeFrame_iff.1 h))
  · exact exec_encodeReply_iff.2 (encodeReply_of_decodePacket hid (exec_decodeFrame_iff.1 h))
  · have hfits : [b].length ≤ cmdWindow := Nat.le_of_ble_eq_true rfl
    obtain ⟨f, hencode, hdecode⟩ := exec_encodeCommand_decodeFrame hv code n hfits
    exact ⟨f, _, hencode, hdecode, length_append_zeros hfits⟩

end Sys2Proof.Machine

/-!
## The controller operations (R140 to R150)

What presenting an operation does is said once for all nine: the first test it fails, or its command with the padded
payload as the window. Each operation's own statement is then its contract and its window.
-/

namespace Sys2Proof.Machine

/-! ### The first test an operation fails (R140) -/

theorem refusal_busy (op : CtrlOp) {s : State} (hactive : s.active = true) : refusal op s = some .handlerBusy :=
  if_pos hactive

theorem refusal_wrongState {op : CtrlOp} {s : State} (hfree : s.active = false) (hstate : s.state ≠ op.allowedFrom) :
    refusal op s = some .stateViolation := by
  simp [refusal, hfree, hstate]

theorem refusal_brokenContract {op : CtrlOp} {s : State} (hfree : s.active = false) (hstate : s.state = op.allowedFrom)
    (hbroken : op.contractHolds = false) : refusal op s = some .payloadLength := by
  simp [refusal, hfree, hstate, hbroken]

/-! ### An operation of the block, refused or issued (R140, R141) -/

section Presented

variable {op : CtrlOp} {s : State} (hc : s.cfg.hasController = true) (hwf : op.wellFormed s.cfg = true)
include hc hwf

theorem admits_of_wellFormed : s.admits op = true := Bool.and_eq_true_iff.2 ⟨hc, hwf⟩

theorem exec_toInstr_refused {e : Err} (h : refusal op s = some e) :
    exec op.toInstr s = .next (s.afterRefusal e) := by
  rw [exec_toInstr, present_refused (admits_of_wellFormed hc hwf) h]
  rfl

theorem exec_toInstr_issues (hfree : s.active = false) (hstate : s.state = op.allowedFrom)
    (hcontract : op.contractHolds = true) {window : List Byte} (hwindow : paddedPayload s.cfg op = window) :
    exec op.toInstr s = .next ((latch op s).afterIssue op.code op.waitingState window) := by
  have hpasses : refusal op s = none := (refusal_eq_none_iff op s).2 ⟨hfree, hstate, hcontract⟩
  rw [exec_toInstr, present_accepted (admits_of_wellFormed hc hwf) hpasses, ← hwindow]
  cases op <;> rfl

end Presented

/-! ### Contracts that are broken (R146 to R148) -/

theorem contractHolds_download_eq_false {d : List Byte} (h : 5 < d.length ∨ d.length % 2 = 1) :
    (CtrlOp.download d).contractHolds = false := by
  rw [← Bool.not_eq_true, contractHolds_download_iff]
  omega

theorem contractHolds_download6_eq_false {d : List Byte} (h : d.length ≠ 6) :
    (CtrlOp.download6 d).contractHolds = false := by
  rwa [← Bool.not_eq_true, contractHolds_download6_iff]

theorem contractHolds_upload_eq_false {n : Byte} (h : 5 < n.toNat) :
    (CtrlOp.upload n false).contractHolds = false := by
  rw [← Bool.not_eq_true, contractHolds_upload_iff]
  simpa using h

/-! ### The windows that hold words and passwords (R43, R81) -/

theorem be16_eq_slices (v : Half) : be16 v = [v.extractLsb' 8 8, v.extractLsb' 0 8] := by
  simp [be16, byteAt_eq_extractLsb']

theorem be32_eq_slices (v : Word32) :
    be32 v = [v.extractLsb' 24 8, v.extractLsb' 16 8, v.extractLsb' 8 8, v.extractLsb' 0 8] := by
  simp [be32, byteAt_eq_extractLsb']

theorem paddedPayload_setMta (c : Config) (e : AddressExtension) (a : Word32) :
    paddedPayload c (.setMta e a) = [mtaReserved, c.extByte e] ++ be32 a := rfl

theorem paddedPayload_unlock (c : Config) (p : Password) :
    paddedPayload c (.unlock p) = [unlockLead] ++ be16 (c.passwordValue p) ++ zeros 3 := rfl

theorem paddedPayload_buildChecksum (c : Config) (k : Half) (len : Word32) :
    paddedPayload c (.buildChecksum k len) = be32 len ++ be16 k := rfl

/-- A further password that the configuration lists is a member, with the value listed for it. -/
theorem listedPassword {c : Config} {k : Nat} {w : Half} (h : c.passwordOthers[k]? = some w) :
    c.hasPassword (.other k) = true ∧ c.passwordValue (.other k) = w := by
  obtain ⟨hlisted, -⟩ := List.getElem?_eq_some_iff.1 h
  exact ⟨decide_eq_true hlisted, by simp [Config.passwordValue, h]⟩

/-! ### The statements -/

/-- Settles O23: the three tests in their order, and the states the operations are allowed from. -/
theorem operationsAreTestedInOrder : Obligations.OperationsAreTestedInOrder := by
  unfold Obligations.OperationsAreTestedInOrder
  refine ⟨fun op s hc hwf => ⟨fun hactive => ?_, fun hfree hstate => ?_, fun hfree hstate hbroken => ?_⟩,
    fun st => rfl, fun op hop => ?_⟩
  · exact exec_toInstr_refused hc hwf (refusal_busy op hactive)
  · exact exec_toInstr_refused hc hwf (refusal_wrongState hfree hstate)
  · exact exec_toInstr_refused hc hwf (refusal_brokenContract hfree hstate hbroken)
  · cases op with
    | connect st => exact absurd rfl (hop st)
    | _ => rfl

/-- Settles O24: issued from `idle`, the station alone in the window. -/
theorem connectIssuesItsCommand : Obligations.ConnectIssuesItsCommand :=
  fun station _ hc hfree hstate => exec_toInstr_issues (op := .connect station) hc rfl hfree hstate rfl rfl

/-- Settles O25: issued with an empty payload. -/
theorem disconnectIssuesItsCommand : Obligations.DisconnectIssuesItsCommand :=
  fun _ hc hfree hstate => exec_toInstr_issues (op := .disconnect) hc rfl hfree hstate rfl rfl

/-- Settles O26: issued with the address, the four bytes of `be32` being its slices. -/
theorem setMtaIssuesItsCommand : Obligations.SetMtaIssuesItsCommand := by
  unfold Obligations.SetMtaIssuesItsCommand
  intro e a s hc hfree hstate
  refine exec_toInstr_issues (op := .setMta e a) hc rfl hfree hstate rfl ?_
  rw [paddedPayload_setMta, be32_eq_slices]
  rfl

/-- Settles O27: `dsp_flash` and each listed password are members with their values, and the window holds the value. -/
theorem unlockIssuesItsCommand : Obligations.UnlockIssuesItsCommand := by
  unfold Obligations.UnlockIssuesItsCommand
  intro p w s hc hfree hstate hp
  have hmember : s.cfg.hasPassword p = true ∧ s.cfg.passwordValue p = w := by
    rcases hp with ⟨rfl, rfl⟩ | ⟨k, rfl, hk⟩
    · exact ⟨rfl, rfl⟩
    · exact listedPassword hk
  obtain ⟨hwf, hvalue⟩ := hmember
  refine exec_toInstr_issues (op := .unlock p) hc hwf hfree hstate rfl ?_
  rw [paddedPayload_unlock, hvalue, be16_eq_slices]
  rfl

/-- Settles O28: the three admitted lengths are issued, every other length breaks the contract. -/
theorem downloadIssuesItsCommand : Obligations.DownloadIssuesItsCommand := by
  unfold Obligations.DownloadIssuesItsCommand
  intro s hc hfree hstate
  refine ⟨?_, fun a b => ?_, fun a b c d => ?_, fun d hd => ?_⟩
  · exact exec_toInstr_issues (op := .download []) hc rfl hfree hstate rfl rfl
  · exact exec_toInstr_issues (op := .download [a, b]) hc rfl hfree hstate
      ((contractHolds_download_iff _).2 (by simp)) rfl
  · exact exec_toInstr_issues (op := .download [a, b, c, d]) hc rfl hfree hstate
      ((contractHolds_download_iff _).2 (by simp)) rfl
  · exact exec_toInstr_refused (op := .download d) hc rfl
      (refusal_brokenContract hfree hstate (contractHolds_download_eq_false hd))

/-- Settles O29: six bytes fill the window, every other length breaks the contract. -/
theorem download6IssuesItsCommand : Obligations.Download6IssuesItsCommand := by
  unfold Obligations.Download6IssuesItsCommand
  intro s hc hfree hstate
  refine ⟨fun a b c d e f => ?_, fun d hd => ?_⟩
  · exact exec_toInstr_issues (op := .download6 [a, b, c, d, e, f]) hc rfl hfree hstate rfl rfl
  · exact exec_toInstr_refused (op := .download6 d) hc rfl
      (refusal_brokenContract hfree hstate (contractHolds_download6_eq_false hd))

/-- Settles O30: issued from the state with the count latched, or refused over five bytes without `block`. -/
theorem uploadIssuesItsCommand : Obligations.UploadIssuesItsCommand := by
  unfold Obligations.UploadIssuesItsCommand
  intro n block s hc hfree hstate
  refine ⟨fun hfits => ?_, ?_⟩
  · exact exec_toInstr_issues (op := .upload n block) hc rfl hfree hstate
      ((contractHolds_upload_iff n block).2 hfits) rfl
  · rintro ⟨rfl, hlong⟩
    exact exec_toInstr_refused (op := .upload n false) hc rfl
      (refusal_brokenContract hfree hstate (contractHolds_upload_eq_false hlong))

/-- Settles O31: issued with the length and the checksum, whose bytes are their slices. -/
theorem buildChecksumIssuesItsCommand : Obligations.BuildChecksumIssuesItsCommand := by
  unfold Obligations.BuildChecksumIssuesItsCommand
  intro k len s hc hfree hstate
  refine exec_toInstr_issues (op := .buildChecksum k len) hc rfl hfree hstate rfl ?_
  rw [paddedPayload_buildChecksum, be32_eq_slices, be16_eq_slices]
  rfl

/-- Settles O32: issued with the four bytes of the fixed length (C2). -/
theorem clearMemoryIssuesItsCommand : Obligations.ClearMemoryIssuesItsCommand :=
  fun _ hc hfree hstate => exec_toInstr_issues (op := .clearMemory) hc rfl hfree hstate rfl rfl

end Sys2Proof.Machine

/-!
## Inbound frames, `CANCEL` and the timer (R170 to R180)

What each outcome of a transaction leaves is said once, as R173 and R176 have it. A frame at the RX port reaches the
controller whether or not it is a row of the table, and its seven tests choose among those outcomes.
-/

namespace Sys2Proof.Machine

/-! ### How a transaction ends (R173, R176, R180) -/

theorem enteredFrom_eq_ite (h : HandlerState) :
    h.enteredFrom = if h = .connecting then .idle else .connected := by
  cases h <;> rfl

theorem ackState_eq_ite (h : HandlerState) : h.ackState = if h = .disconnecting then .idle else .connected := by
  cases h <;> rfl

/-- The failure of a transaction with no wrapper in progress is R176 word for word, whatever its timer stood at. -/
theorem fail_eq_afterFailure (e : Err) {s : State} (hr : s.rActive = false) (n : Nat) :
    fail e { s.quiet with timer := n } = s.afterFailure e := by
  rw [fail_transparent (s := { s.quiet with timer := n }) hr, State.afterFailure, ← enteredFrom_eq_ite]
  rfl

/-- A success goes to the host, and ends a wrapper if there is one (R173, R192). -/
theorem succeed_eq_afterAck (bytes : List Byte) (s : State) : succeed bytes s.quiet = s.afterAck bytes := by
  rw [succeed_eq, State.afterAck, ← ackState_eq_ite]
  cases hretry : s.cfg.hasRetry <;> cases hr : s.rActive <;> simp [deliver, hretry, hr, State.resolved, State.quiet]

/-- Only where there is an arbiter can a wrapper be abandoned (R194). -/
theorem abandonRetry_eq (s : State) : s.abandonRetry = { s with rActive := s.rActive && !s.cfg.hasRetry } := by
  unfold State.abandonRetry
  cases hretry : s.cfg.hasRetry <;> simp

/-- With its wrapper abandoned a failure goes to the host (R180). -/
theorem fail_abandonRetry (e : Err) (s : State) :
    fail e s.abandonRetry =
      State.resolved { s.abandonRetry with state := s.state.enteredFrom, active := false, timer := 0 } (.err e) := by
  rw [fail_eq, abandonRetry_eq, deliver, if_neg]
  cases s.cfg.hasRetry <;> simp

/-- Settles O34: the wrapper is abandoned first, so the failure of an outstanding transaction is the host's. -/
theorem cancelEndsTheTransaction : Obligations.CancelEndsTheTransaction := by
  unfold Obligations.CancelEndsTheTransaction
  intro s hc
  rcases exec_cancel_cases s with ⟨habsent, -⟩ | ⟨-, ha, he⟩ | ⟨-, ha, he⟩
  · exact nomatch hc.symm.trans habsent
  · refine ⟨fun _ => ?_, fun hidle => (nomatch ha.symm.trans hidle)⟩
    rw [he, fail_abandonRetry, abandonRetry_eq, enteredFrom_eq_ite]
    rfl
  · refine ⟨fun hactive => (nomatch ha.symm.trans hactive), fun _ => ?_⟩
    rw [he, abandonRetry_eq]
    rfl

/-! ### A frame at the RX port (R170 to R174) -/

/-- A frame that fails a test fails the outstanding transaction, or is a violation. -/
theorem rxStep_rejects {s : State} {f : Frame} {e : Err} (hc : s.cfg.hasController = true) (hr : s.rActive = false)
    (h : rxError s f = some e) :
    rxStep f s = if s.active = true then s.afterFailure e else s.afterViolation e := by
  rcases rxStep_cases f hc with ⟨e', he', ha, heq⟩ | ⟨e', he', ha, heq⟩ | ⟨hpass, -⟩ | ⟨hpass, -⟩
  · cases h.symm.trans he'
    rw [heq, if_pos ha]
    exact fail_eq_afterFailure e hr s.timer
  · cases h.symm.trans he'
    rw [heq, ha]
    rfl
  · exact nomatch h.symm.trans hpass
  · exact nomatch h.symm.trans hpass

/-- The matching acknowledge reply, but for an upload. -/
theorem rxStep_acknowledges {s : State} {f : Frame} (hc : s.cfg.hasController = true) (h : rxError s f = none)
    (hs : s.state ≠ .uploading) : rxStep f s = s.afterAck [] := by
  rcases rxStep_cases f hc with ⟨e, he, -⟩ | ⟨e, he, -⟩ | ⟨-, -, heq⟩ | ⟨-, hup, -⟩
  · exact nomatch h.symm.trans he
  · exact nomatch h.symm.trans he
  · rw [heq, succeed_eq_afterAck]
  · exact absurd hup hs

/-- The matching acknowledge reply of an upload. -/
theorem rxStep_extendsUpload {s : State} {f : Frame} {buf : List Byte} (hc : s.cfg.hasController = true)
    (h : rxError s f = none) (hs : s.state = .uploading)
    (hbuf : buf = s.upBuf ++ (f.data.drop 3).take (min 5 (s.upN.toNat - s.upBuf.length))) :
    rxStep f s =
      if buf.length = s.upN.toNat then { s.afterAck buf with upBuf := buf }
      else { s with upBuf := buf, timer := s.cfg.timeout.get .upload, out := {} } := by
  rcases rxStep_cases f hc with ⟨e, he, -⟩ | ⟨e, he, -⟩ | ⟨-, hother, -⟩ | ⟨-, -, heq⟩
  · exact nomatch h.symm.trans he
  · exact nomatch h.symm.trans he
  · exact absurd hs hother
  · obtain ⟨_, hbuf', hcases⟩ := uploadReply_cases f s.quiet
    cases hbuf'.trans hbuf.symm
    rw [heq]
    rcases hcases with ⟨hfull, he⟩ | ⟨hmore, he⟩
    · rw [he]
      exact (succeed_eq_afterAck buf { s with upBuf := buf }).trans (if_pos hfull).symm
    · rw [he]
      exact (if_neg hmore).symm

/-- A reply frame that matches passes all seven tests. -/
theorem rxError_wireReplyFrame {s : State} {status ctr : Byte} (h : s.MatchingAck status ctr) (payload : BitVec 40) :
    rxError s (wireReplyFrame s.cfg.idReply true status ctr payload) = none := by
  obtain ⟨-, ha, hstatus, hctr⟩ := h
  have hcounter : counterOk s ctr = true := by simpa [counterOk] using hctr
  exact (rxError_eq_none_iff s _).2 ⟨rfl, rfl, rfl, rfl, ha, hcounter, hstatus⟩

/-- Settles O36: the matching reply passes all tests, and the success is the host's. -/
theorem acknowledgeReplyCompletes : Obligations.AcknowledgeReplyCompletes := by
  unfold Obligations.AcknowledgeReplyCompletes
  intro s status ctr payload hmatch hs
  obtain ⟨hc, -⟩ := id hmatch
  exact congrArg Host.Outcome.next (rxStep_acknowledges hc (rxError_wireReplyFrame hmatch payload) hs)

/-- Settles O37: the matching reply passes all tests, and its payload is what follows marker, status and counter. -/
theorem uploadReplyAccumulates : Obligations.UploadReplyAccumulates := by
  unfold Obligations.UploadReplyAccumulates
  intro s status ctr payload buf hmatch hs hbuf
  obtain ⟨hc, -⟩ := id hmatch
  exact congrArg Host.Outcome.next (rxStep_extendsUpload hc (rxError_wireReplyFrame hmatch payload) hs hbuf)

/-! ### The seven tests (R170) -/

/-- The tests read the frame's data at positions that a frame of 8 bytes has, so that no default is ever read. -/
theorem rxError_eq_rxTests (s : State) (f : Frame) : rxError s f = rxTests s f := by
  obtain ⟨id, ext, data⟩ := f
  by_cases hlen : data.length = 8
  · match data, hlen with
    | [d0, d1, d2, d3, d4, d5, d6, d7], _ =>
      cases ext <;>
        simp [rxError, rxTests, frameError, Frame.len, frameLen, Frame.byte, replyMarker, nonAckError, counterOk]
  · simp [rxError, rxTests, frameError, frameLen, hlen]

/-! ### Command frames are no replies (R170 tests 2 to 4) -/

/-- By R2 a frame that leads with a command code fails test 4, so the first test it fails is one of 2 to 4. -/
theorem rxTests_hcFrame {s : State} (hmarker : 0xFF#8 ∉ s.cfg.codes) (m : CommandCode) (id : CanId) (ext : Bool)
    (ctr : Byte) {window : List Byte} (hlen : window.length = cmdWindow) :
    rxTests s (hcFrame id ext (s.cfg.code.get m) ctr window) =
      some (
        if ext = false then .identifierType
        else if id ≠ s.cfg.idReply then .unexpectedMessage .wrongIdentifier
        else .unexpectedMessage .notAReply) := by
  have hcode : s.cfg.code.get m ≠ 0xFF#8 := code_ne_replyMarker hmarker m
  cases ext with
  | false => simp [rxTests, hcFrame, hlen, cmdWindow]
  | true => by_cases hid : id = s.cfg.idReply <;> simp [rxTests, hcFrame, hlen, cmdWindow, hid, hcode]

/-- An instruction that a frame presents is the RX step of that frame (R61). -/
theorem exec_of_encode_rx {s : State} {i : Instr} {f : Frame} (h : encode s.cfg i = .rx f) :
    exec i s = .next (rxStep f s) := by
  cases i <;> cases h <;> rfl

/-- A row that is laid out as a command frame is rejected when it arrives. -/
theorem commandFrameRejected {row : CanId → Bool → Instr} (m : CommandCode) {ctr : Byte} {window : List Byte}
    (hlen : window.length = cmdWindow)
    (hrow : ∀ c id ext, encode c (row id ext) = .rx (hcFrame id ext (c.code.get m) ctr window)) :
    CommandFrameRejected row := by
  intro s id ext hc hmarker hr
  rw [exec_of_encode_rx (hrow s.cfg id ext)]
  exact congrArg Host.Outcome.next
    (rxStep_rejects hc hr ((rxError_eq_rxTests s _).trans (rxTests_hcFrame hmarker m id ext ctr hlen)))

/-- Settles O35: each of the ten rows is laid out as the command frame of its code. -/
theorem commandFramesAreRejected : Obligations.CommandFramesAreRejected :=
  ⟨fun _ _ _ => commandFrameRejected .connect rfl fun _ _ _ => rfl,
    fun _ _ _ _ => commandFrameRejected .setMta rfl fun _ _ _ => rfl,
    fun _ _ _ => commandFrameRejected .download rfl fun _ _ _ => rfl,
    fun _ _ _ => commandFrameRejected .upload rfl fun _ _ _ => rfl,
    fun _ _ => commandFrameRejected .disconnect rfl fun _ _ _ => rfl,
    fun _ _ _ => commandFrameRejected .buildChecksum rfl fun _ _ _ => rfl,
    fun _ _ _ => commandFrameRejected .clearMemory rfl fun _ _ _ => rfl,
    fun _ _ _ _ => commandFrameRejected .unlock rfl fun _ _ _ => rfl,
    fun _ _ => commandFrameRejected .actionService rfl fun _ _ _ => rfl,
    fun _ _ => commandFrameRejected .download6 rfl fun _ _ _ => rfl⟩

/-! ### The step of an inbound frame, row or none (R83, R170) -/

/-- The frame of a command row is found again from the row's fields. -/
theorem encode_commandRow (c : Config) (id : CanId) (ext : Bool) (ctr : Byte) {window : List Byte}
    (hlen : window.length = cmdWindow) (m : CommandCode) :
    encode c (commandRow id ext ctr window m) = .rx (hcFrame id ext (c.code.get m) ctr window) := by
  match window, hlen with
  | [d2, d3, d4, d5, d6, d7], _ =>
    cases m <;>
      simp [commandRow, encode, wireConnectFrame, wireSetMtaFrame, wireDownloadFrame, wireUploadFrame,
        wireDisconnectFrame, wireBuildChecksumFrame, wireClearMemoryFrame, wireUnlockFrame, wireActionServiceFrame,
        wireDownload6Frame, be16_ofBytes, be24_ofBytes, be32_ofBytes, be40_ofBytes, be48_ofBytes]

/-- A frame that decodes is the frame of the row it decodes to. -/
theorem encode_of_decodeWire {c : Config} {f : Frame} {i : Instr} (h : decodeWire c f = .ok i) :
    encode c i = .rx f := by
  obtain ⟨id, ext, data⟩ := f
  unfold decodeWire at h
  split at h
  next d0 d1 d2 d3 d4 d5 d6 d7 hdata =>
    subst hdata
    by_cases hreply : d0 = replyMarker
    · rw [if_pos hreply] at h
      cases h
      simp [encode, wireReplyFrame, be40_ofBytes, hreply]
    · rw [if_neg hreply] at h
      cases hm : lookupCode c d0 with
      | none =>
        rw [hm] at h
        cases h
      | some m =>
        have hrow : commandRow id ext d1 [d2, d3, d4, d5, d6, d7] m = i := by
          rw [hm] at h
          cases m <;> exact Except.ok.inj h
        rw [← hrow, encode_commandRow c id ext d1 rfl, lookupCode_some hm]
        rfl
  next => cases h

/-- Every inbound frame takes the RX step, whether it is a row of the table or none. -/
theorem step_rx {s : State} {f : Frame} {rest : List Event} (hevents : s.events = .rx f :: rest) :
    step s = .next (rxStep f { s with events := rest }) := by
  cases hd : decode s.cfg (.rx f) with
  | ok i => exact (step_instruction hevents hd).trans (exec_of_encode_rx (encode_of_decodeWire hd))
  | error r => exact step_other hevents hd

/-- Settles O38: the step of any frame is the RX step, whose tests are the seven. -/
theorem inboundFramesTakeTheSevenTests : Obligations.InboundFramesTakeTheSevenTests := by
  unfold Obligations.InboundFramesTakeTheSevenTests
  intro s f rest hc hr hevents
  have htests : rxError { s with events := rest } f = rxTests s f := rxError_eq_rxTests { s with events := rest } f
  rw [step_rx hevents, ← htests]
  refine ⟨fun e he ha => ?_, fun e he ha => ?_, fun he hs => ?_, fun buf he hs hbuf => ?_⟩
  · rw [rxStep_rejects (s := { s with events := rest }) hc hr he, if_pos ha]
    rfl
  · rw [rxStep_rejects (s := { s with events := rest }) hc hr he, if_neg (Bool.eq_false_iff.1 ha)]
    rfl
  · rw [rxStep_acknowledges (s := { s with events := rest }) hc he hs]
    rfl
  · rw [rxStep_extendsUpload (s := { s with events := rest }) hc he hs hbuf]
    rfl

/-! ### An upload over several replies (R174, R279) -/

/-- An upload that awaits more: its buffer so far, the timer armed anew, and nothing output. -/
def State.awaiting (s : State) (buf : List Byte) (rest : List Event) : State :=
  { s with upBuf := buf, timer := s.cfg.timeout.get .upload, out := {}, events := rest }

/-- What an upload needs to go on: a controller, and its transaction outstanding. -/
abbrev State.Uploads (s : State) : Prop := s.cfg.hasController = true ∧ s.active = true ∧ s.state = .uploading

/-- One acknowledge reply of an upload, which completes it or not. -/
theorem step_ackEvent {s : State} (h : s.Uploads) {payload : BitVec 40} {rest : List Event} {buf : List Byte}
    (hevents : s.events = s.ackEvent payload :: rest)
    (hbuf : buf = s.upBuf ++ (be40 payload).take (min 5 (s.upN.toNat - s.upBuf.length))) :
    step s =
      .next (
        if buf.length = s.upN.toNat then { s.afterAck buf with upBuf := buf, events := rest }
        else s.awaiting buf rest) := by
  obtain ⟨hc, ha, hs⟩ := h
  have hpass := rxError_wireReplyFrame (s := { s with events := rest }) ⟨hc, ha, rfl, .inr rfl⟩ payload
  rw [step_rx hevents, rxStep_extendsUpload (s := { s with events := rest }) hc hpass hs hbuf]
  rfl

/-- While more than a whole reply is wanted, a reply is taken whole. -/
theorem step_wholeReply {s : State} (h : s.Uploads) {payload : BitVec 40} {rest : List Event}
    (hevents : s.events = s.ackEvent payload :: rest) (hmore : s.upBuf.length + 5 < s.upN.toNat) :
    step s = .next (s.awaiting (s.upBuf ++ be40 payload) rest) := by
  have hlen : (s.upBuf ++ be40 payload).length = s.upBuf.length + 5 := List.length_append
  rw [step_ackEvent h hevents (buf := s.upBuf ++ be40 payload), if_neg (by omega)]
  rw [show min 5 (s.upN.toNat - s.upBuf.length) = 5 by omega]
  rfl

/-- When at most a whole reply is wanted, a reply completes the upload. -/
theorem step_lastReply {s : State} (h : s.Uploads) {payload : BitVec 40} {rest : List Event} {buf : List Byte}
    (hevents : s.events = s.ackEvent payload :: rest) (hle : s.upBuf.length ≤ s.upN.toNat)
    (hlast : s.upN.toNat ≤ s.upBuf.length + 5)
    (hbuf : buf = s.upBuf ++ (be40 payload).take (s.upN.toNat - s.upBuf.length)) :
    step s = .next { s.afterAck buf with upBuf := buf, events := rest } := by
  have hfull : buf.length = s.upN.toNat := by
    have hpayload : (be40 payload).length = 5 := rfl
    rw [hbuf, List.length_append, List.length_take]
    omega
  rw [← Nat.min_eq_right (show s.upN.toNat - s.upBuf.length ≤ 5 by omega)] at hbuf
  rw [step_ackEvent h hevents hbuf, if_pos hfull]

/-- Replies that leave more to be wanted are taken whole, one after the other. -/
theorem steps_wholeReplies {s : State} (h : s.Uploads) {payloads : List (BitVec 40)} (hne : payloads ≠ [])
    {rest : List Event} (hevents : s.events = payloads.map s.ackEvent ++ rest)
    (hmore : s.upBuf.length + 5 * payloads.length < s.upN.toNat) :
    steps payloads.length s = .next (s.awaiting (s.upBuf ++ payloads.flatMap be40) rest) := by
  induction payloads generalizing s with
  | nil => exact absurd rfl hne
  | cons p ps ih =>
    rw [List.length_cons] at hmore
    have hfirst := step_wholeReply h (rest := ps.map s.ackEvent ++ rest) hevents (by omega)
    rw [List.length_cons, steps_succ hfirst, List.flatMap_cons, ← List.append_assoc]
    by_cases hps : ps = []
    · subst hps
      rw [List.flatMap_nil, List.append_nil]
      rfl
    · have hlen : (s.upBuf ++ be40 p).length = s.upBuf.length + 5 := List.length_append
      exact ih (s := s.awaiting (s.upBuf ++ be40 p) (ps.map s.ackEvent ++ rest)) h hps rfl
        (show (s.upBuf ++ be40 p).length + _ < s.upN.toNat by omega)

theorem length_flatMap_be40 (payloads : List (BitVec 40)) : (payloads.flatMap be40).length = 5 * payloads.length := by
  simp [List.length_flatMap, be40, Nat.mul_comm]

/-- The first `n` bytes of replies that are taken whole but for the last. -/
theorem take_flatMap_be40 (init : List (BitVec 40)) (last : BitVec 40) {n : Nat} (h : 5 * init.length ≤ n) :
    ((init ++ [last]).flatMap be40).take n =
      init.flatMap be40 ++ (be40 last).take (n - (init.flatMap be40).length) := by
  rw [List.flatMap_append, List.flatMap_singleton, List.take_append, List.take_of_length_le]
  rwa [length_flatMap_be40]

/-- Whole replies and a last one complete an upload that starts with an empty buffer. -/
theorem steps_upload {s : State} (h : s.Uploads) (hempty : s.upBuf = []) (init : List (BitVec 40)) (last : BitVec 40)
    {rest : List Event} (hevents : s.events = init.map s.ackEvent ++ s.ackEvent last :: rest)
    (hmore : init ≠ [] → 5 * init.length < s.upN.toNat) (hlast : s.upN.toNat ≤ 5 * init.length + 5) {buf : List Byte}
    (hbuf : buf = ((init ++ [last]).flatMap be40).take s.upN.toNat) :
    steps (init.length + 1) s = .next { s.afterAck buf with upBuf := buf, events := rest } := by
  by_cases hinit : init = []
  · subst hinit
    refine steps_one (step_lastReply h hevents (by simp [hempty]) (by simpa [hempty] using hlast) ?_)
    simpa [hempty] using hbuf
  · have hlen := length_flatMap_be40 init
    have hmore := hmore hinit
    have hwhole := steps_wholeReplies h hinit hevents (by simpa [hempty] using hmore)
    rw [hempty, List.nil_append] at hwhole
    rw [take_flatMap_be40 init last hmore.le] at hbuf
    rw [steps_add hwhole]
    exact steps_one (step_lastReply (s := s.awaiting (init.flatMap be40) (s.ackEvent last :: rest)) h rfl
      (hlen.trans_le hmore.le) (hlast.trans_eq (congrArg (· + 5) hlen.symm)) hbuf)

/-- Settles O39: all replies but the last are taken whole, by induction on them, and the last one completes. -/
theorem uploadTakesCeilingOfRepliesToComplete : Obligations.UploadTakesCeilingOfRepliesToComplete := by
  unfold Obligations.UploadTakesCeilingOfRepliesToComplete
  intro s payloads rest hc ha hs hempty hlen hevents
  have h : s.Uploads := ⟨hc, ha, hs⟩
  constructor
  · rcases List.eq_nil_or_concat' payloads with rfl | ⟨init, last, rfl⟩
    · simp at hlen
      omega
    · rw [List.length_append, List.length_singleton] at hlen ⊢
      refine steps_upload h hempty init last (by simpa using hevents) (fun hinit => ?_) (by omega) rfl
      have := List.length_pos_of_ne_nil hinit
      omega
  · intro j hj hlt
    have htake : (payloads.take j).length = j := List.length_take_of_le hlt.le
    have hsplit : s.events = (payloads.take j).map s.ackEvent ++ ((payloads.drop j).map s.ackEvent ++ rest) := by
      rw [hevents, ← List.append_assoc, ← List.map_append, List.take_append_drop]
    have hwhole := steps_wholeReplies h (List.ne_nil_of_length_pos (hj.trans_eq htake.symm)) hsplit (by
      rw [hempty, htake, List.length_nil]
      omega)
    rw [hempty, List.nil_append, htake] at hwhole
    exact ⟨_, hwhole, hs, ha, rfl, rfl⟩

/-! ### The timer (R178, R179) -/

theorem step_tick {s : State} {rest : List Event} (hevents : s.events = .tick :: rest) :
    step s = .next (tickStep { s with events := rest }) :=
  step_other hevents rfl

/-- Settles O40: the three things a tick can do, the failure being R176's where no wrapper takes it. -/
theorem tickCountsDownAndExpires : Obligations.TickCountsDownAndExpires := by
  unfold Obligations.TickCountsDownAndExpires
  intro s rest hc hevents
  rw [step_tick hevents]
  rcases tickStep_cases { s with events := rest } with ⟨-, ha, ht, he⟩ | ⟨-, ha, ht, he⟩ | ⟨hidle, he⟩
  · rw [he]
    refine ⟨fun _ hlong => absurd ht (Nat.not_le.2 hlong), fun _ _ hr => ?_, fun hna => (nomatch ha.symm.trans hna)⟩
    exact congrArg Host.Outcome.next (fail_eq_afterFailure .requestTimeout (s := { s with events := rest }) hr _)
  · rw [he]
    exact ⟨fun _ _ => rfl, fun _ hone => absurd ht (by simp [hone]), fun hna => (nomatch ha.symm.trans hna)⟩
  · have hna : s.active = false := hidle.resolve_left (by simp [hc])
    rw [he]
    exact ⟨fun ha => (nomatch ha.symm.trans hna), fun ha => (nomatch ha.symm.trans hna), fun _ => rfl⟩

/-- After `k` ticks that only counted down. -/
def State.ticked (s : State) (k : Nat) (rest : List Event) : State :=
  { s with timer := s.timer - k, events := rest, out := {} }

theorem step_tick_countsDown {s : State} (hc : s.cfg.hasController = true) (ha : s.active = true) (hlong : 1 < s.timer)
    {rest : List Event} (hevents : s.events = .tick :: rest) : step s = .next (s.ticked 1 rest) := by
  obtain ⟨hdown, -, -⟩ := tickCountsDownAndExpires s rest hc hevents
  exact hdown ha hlong

theorem step_tick_expires {s : State} (hc : s.cfg.hasController = true) (ha : s.active = true) (hr : s.rActive = false)
    (hone : s.timer = 1) {rest : List Event} (hevents : s.events = .tick :: rest) :
    step s = .next { s.afterFailure .requestTimeout with events := rest } := by
  obtain ⟨-, hexpires, -⟩ := tickCountsDownAndExpires s rest hc hevents
  exact hexpires ha hone hr

/-- Ticks count down while the timer stays above 0. -/
theorem steps_ticks {s : State} (hc : s.cfg.hasController = true) (ha : s.active = true) {k : Nat} (hk : 0 < k)
    (hlt : k < s.timer) {rest : List Event} (hevents : s.events = List.replicate k .tick ++ rest) :
    steps k s = .next (s.ticked k rest) := by
  induction k, hk using Nat.le_induction generalizing s with
  | base => exact steps_one (step_tick_countsDown hc ha hlt hevents)
  | succ k hk ih =>
    have hfirst := step_tick_countsDown hc ha (rest := List.replicate k Event.tick ++ rest) (by omega) hevents
    have hthen : steps k (s.ticked 1 (List.replicate k .tick ++ rest)) = _ :=
      ih hc ha (show k < s.timer - 1 by omega) rfl
    rw [steps_succ hfirst, hthen, Nat.add_comm k 1]
    exact congrArg (fun n => Host.Outcome.next { s with timer := n, events := rest, out := {} })
      (Nat.sub_sub s.timer 1 k)

/-- Settles O41: all ticks but the last count down, by induction on them, and the last finds the timer at 1. -/
theorem timeoutFiresInItsLastTick : Obligations.TimeoutFiresInItsLastTick := by
  unfold Obligations.TimeoutFiresInItsLastTick
  intro s rest hc ha hr hpos hevents
  have hdown : ∀ k, 0 < k → k < s.timer →
      steps k s = .next (s.ticked k (List.replicate (s.timer - k) .tick ++ rest)) := by
    intro k hk hlt
    refine steps_ticks hc ha hk hlt ?_
    rw [hevents, ← List.append_assoc, List.replicate_append_replicate, Nat.add_sub_of_le hlt.le]
  refine ⟨?_, hdown⟩
  obtain ⟨k, htimer⟩ := Nat.exists_eq_add_of_le' hpos
  rcases Nat.eq_zero_or_pos k with rfl | hk
  · rw [htimer] at hevents ⊢
    exact steps_one (step_tick_expires hc ha hr htimer hevents)
  · have hleft : s.timer - k = 1 := by omega
    have hbefore := hdown k hk (by omega)
    rw [hleft] at hbefore
    rw [htimer, steps_add hbefore]
    exact steps_one (step_tick_expires (s := s.ticked k (.tick :: rest)) hc ha hr hleft rfl)

end Sys2Proof.Machine

/-!
## The retry arbiter (R190 to R192)

`RETRY` attempts its operation as the host would present it. From then on the arbiter stands between the controller's
result and the host: `State.arbitrated` says once what it makes of the step that the same state takes with no wrapper in
progress, and an inbound frame and a tick are each shown to be that.
-/

namespace Sys2Proof.Machine

/-- Issuing an operation neither reads nor writes the arbiter's registers (R10, R141). -/
theorem accept_withArbiter (op : CtrlOp) (s : State) (a : Bool) (o : CtrlOp) (n : Byte) (k : KindSet) :
    accept op { s with rActive := a, rOp := o, rLeft := n, rAccept := k } =
      { accept op s with rActive := a, rOp := o, rLeft := n, rAccept := k } := by
  cases op <;> rfl

/-! ### `RETRY` (R191) -/

section Retry

variable {op : CtrlOp} {s : State} (hc : s.cfg.hasController = true) (hretry : s.cfg.hasRetry = true)
  (hwf : op.wellFormed s.cfg = true) (times : Byte) (acc : KindSet)
include hc hretry hwf

theorem admitsRetry_of_wellFormed : s.admitsRetry op = true := by simp [State.admitsRetry, hc, hretry, hwf]

theorem exec_retry_busy (hr : s.rActive = true) :
    exec (.retry op times acc) s = .next (s.afterRefusal .handlerBusy) := by
  rcases exec_retry_cases op times acc s with ⟨hno, -⟩ | ⟨-, -, he⟩ | ⟨-, hfree, -⟩
  · exact nomatch (admitsRetry_of_wellFormed hc hretry hwf).symm.trans hno
  · exact he
  · exact nomatch hr.symm.trans hfree

theorem exec_retry_attempts (hr : s.rActive = false) :
    exec (.retry op times acc) s =
      .next (attempt true times.toNat { s.quiet with rOp := op, rLeft := times, rAccept := acc }) := by
  rcases exec_retry_cases op times acc s with ⟨hno, -⟩ | ⟨-, hbusy, -⟩ | ⟨-, -, he⟩
  · exact nomatch (admitsRetry_of_wellFormed hc hretry hwf).symm.trans hno
  · exact nomatch hr.symm.trans hbusy
  · exact he

/-- An operation that passes the tests of R140 is issued as if presented bare. -/
theorem exec_retry_accepted (hr : s.rActive = false) (h : refusal op s = none) :
    exec (.retry op times acc) s =
      .next { (accept op s.quiet).respond .accepted with
        rActive := true, rOp := op, rLeft := times, rAccept := acc } := by
  have hpasses : refusal op { s.quiet with rOp := op, rLeft := times, rAccept := acc } = none := h
  rw [exec_retry_attempts hc hretry hwf times acc hr, attempt_accepted hpasses]
  exact congrArg (fun t : State => Host.Outcome.next ({ t with rActive := true }.respond .accepted))
    (accept_withArbiter op s.quiet s.rActive op times acc)

/-- A refused operation is refused at every attempt of the step, so an acceptable error uses up all of them. -/
theorem exec_retry_refused (hr : s.rActive = false) {e : Err} (h : refusal op s = some e) :
    exec (.retry op times acc) s =
      .next { s.afterRefusal e with
        rActive := false, rOp := op, rLeft := if kindIn e.kind acc = true then 0 else times, rAccept := acc } := by
  have hfails : refusal op { s.quiet with rOp := op, rLeft := times, rAccept := acc } = some e := h
  have hused : times - BitVec.ofNat 8 times.toNat = 0 := by simp
  rw [exec_retry_attempts hc hretry hwf times acc hr, attempt_refused times.toNat hfails]
  simp only [hused]
  rfl

end Retry

/-- A bare operation that answers an error failed a test of R140 with that error. -/
theorem refusal_of_exec_toInstr {op : CtrlOp} {s : State} {e : Err} (ha : s.admits op = true)
    (h : exec op.toInstr s = .next (s.afterRefusal e)) : refusal op s = some e := by
  rw [exec_toInstr] at h
  have hrespond : (present op s).out.respond = some (.err e) :=
    congrArg (fun t : State => t.out.respond) (Host.Outcome.next.inj h)
  rcases present_cases op s with ⟨hno, -⟩ | ⟨-, e', href, he⟩ | ⟨-, -, he⟩
  · exact nomatch ha.symm.trans hno
  · rw [he] at hrespond
    cases hrespond
    exact href
  · rw [he] at hrespond
    cases hrespond

/-- Settles O46: busy, or the attempt's two outcomes, which are those of the bare operation. -/
theorem retryAttemptsItsOperation : Obligations.RetryAttemptsItsOperation := by
  unfold Obligations.RetryAttemptsItsOperation
  intro op times acc s hc hretry hwf
  have hadmits := admits_of_wellFormed hc hwf
  refine ⟨fun hr => exec_retry_busy hc hretry hwf times acc hr, fun hr hfree hstate hcontract => ?_,
    fun e hr hbare => ?_⟩
  · have hpasses := (refusal_eq_none_iff op s).2 ⟨hfree, hstate, hcontract⟩
    exact ⟨_, (exec_toInstr op s).trans (congrArg _ (present_accepted hadmits hpasses)), rfl,
      accept_active op s.quiet, exec_retry_accepted hc hretry hwf times acc hr hpasses⟩
  · exact exec_retry_refused hc hretry hwf times acc hr (refusal_of_exec_toInstr hadmits hbare)

/-! ### The arbiter and the controller's result (R192) -/

/-- What the arbiter makes of a step from `s`, told by the state `t` that the step reaches with no wrapper in progress:
without a result the wrapper stays, an acceptable error with an attempt left issues the operation again, and any other
result ends the wrapper. -/
def State.arbitrated (s t : State) : State :=
  match t.out.resolve with
  | none => { t with rActive := true }
  | some (.ok _) => t
  | some (.err e) =>
    if kindIn e.kind s.rAccept = true ∧ s.rLeft ≠ 0 then
      { accept s.rOp t.quiet with rActive := true, rLeft := s.rLeft - 1 }
    else t

section Arbitrated

variable {s t : State}

theorem arbitrated_noResult (h : t.out.resolve = none) : s.arbitrated t = { t with rActive := true } := by
  simp only [State.arbitrated, h]

theorem arbitrated_ok {v : List Byte} (h : t.out.resolve = some (.ok v)) : s.arbitrated t = t := by
  simp only [State.arbitrated, h]

theorem arbitrated_finalErr {e : Err} (h : t.out.resolve = some (.err e))
    (hfinal : kindIn e.kind s.rAccept = false ∨ s.rLeft = 0) : s.arbitrated t = t := by
  have hnot : ¬(kindIn e.kind s.rAccept = true ∧ s.rLeft ≠ 0) := by
    rintro ⟨hkind, hleft⟩
    rcases hfinal with hkind' | hleft'
    · exact nomatch hkind.symm.trans hkind'
    · exact hleft hleft'
  simp only [State.arbitrated, h, if_neg hnot]

theorem arbitrated_retriedErr {e : Err} (h : t.out.resolve = some (.err e)) (hkind : kindIn e.kind s.rAccept = true)
    (hleft : s.rLeft ≠ 0) :
    s.arbitrated t = { accept s.rOp t.quiet with rActive := true, rLeft := s.rLeft - 1 } := by
  simp only [State.arbitrated, h, if_pos (And.intro hkind hleft)]

end Arbitrated

/-! ### A result of the controller reaches the arbiter (R192) -/

section Delivered

variable {s : State} {e : Err} (hretry : s.cfg.hasRetry = true) (hr : s.rActive = true)
include hretry hr

theorem deliver_retriedErr (hkind : kindIn e.kind s.rAccept = true) (hleft : s.rLeft ≠ 0) :
    deliver (.err e) s = attempt false (s.rLeft.toNat - 1) { s with rLeft := s.rLeft - 1 } := by
  have hpos : 0 < s.rLeft.toNat := by bv_omega
  simp [deliver, hretry, hr, hkind, hpos]

theorem deliver_finalErr (hfinal : kindIn e.kind s.rAccept = false ∨ s.rLeft = 0) :
    deliver (.err e) s = State.resolved { s with rActive := false } (.err e) := by
  rcases hfinal with hkind | hleft
  · simp [deliver, hretry, hr, hkind]
  · simp [deliver, hretry, hr, hleft]

/-- An error reaches the arbiter while the wrapped operation would be accepted anew. -/
theorem deliver_err_eq_arbitrated (hout : s.out = {}) (hpasses : refusal s.rOp s = none) :
    deliver (.err e) s = s.arbitrated (State.resolved { s with rActive := false } (.err e)) := by
  by_cases hfinal : kindIn e.kind s.rAccept = false ∨ s.rLeft = 0
  · rw [deliver_finalErr hretry hr hfinal, arbitrated_finalErr rfl hfinal]
  · rw [not_or, Bool.not_eq_false] at hfinal
    obtain ⟨hkind, hleft⟩ := hfinal
    have hpasses' : refusal s.rOp { s with rLeft := s.rLeft - 1 } = none := hpasses
    have hquiet : State.quiet (State.resolved { s with rActive := false } (.err e)) = { s with rActive := false } := by
      simp [State.quiet, State.resolved, hout]
    rw [deliver_retriedErr hretry hr hkind hleft, attempt_accepted hpasses',
      arbitrated_retriedErr rfl hkind hleft, hquiet, accept_withArbiter s.rOp s false s.rOp s.rLeft s.rAccept,
      accept_withArbiter s.rOp s s.rActive s.rOp (s.rLeft - 1) s.rAccept]
    rfl

end Delivered

/-- A success ends the wrapper, and is otherwise the success without one. -/
theorem afterAck_eq_arbitrated {s : State} (hretry : s.cfg.hasRetry = true) (bytes buf : List Byte) :
    { s.afterAck bytes with upBuf := buf } =
      s.arbitrated { State.afterAck { s with rActive := false } bytes with upBuf := buf } := by
  rw [arbitrated_ok (v := bytes) rfl]
  simp [State.afterAck, hretry]

/-! ### The steps that can end a transaction (R170, R178, R192) -/

section Outstanding

variable {s : State} (hc : s.cfg.hasController = true)

section Ticked

variable (ha : s.active = true)
include hc ha

theorem tickStep_expires (hlast : s.timer ≤ 1) :
    tickStep s = fail .requestTimeout { s.quiet with timer := s.timer - 1 } := by
  rcases tickStep_cases s with ⟨-, -, -, he⟩ | ⟨-, -, hmore, -⟩ | ⟨hidle, -⟩
  · exact he
  · exact absurd hlast (Nat.not_le.2 hmore)
  · simp [hc, ha] at hidle

theorem tickStep_countsDown (hmore : 1 < s.timer) : tickStep s = { s.quiet with timer := s.timer - 1 } := by
  rcases tickStep_cases s with ⟨-, -, hlast, -⟩ | ⟨-, -, -, he⟩ | ⟨hidle, -⟩
  · exact absurd hlast (Nat.not_le.2 hmore)
  · exact he
  · simp [hc, ha] at hidle

end Ticked

variable (hwrap : s.WrapperOutstanding) (hr : s.rActive = true)

include hwrap hr in
/-- A failure, whatever the timer stood at: the wrapped operation's contract held, so it can be issued anew (R193). -/
theorem fail_eq_arbitrated (e : Err) (n : Nat) :
    fail e { s.quiet with timer := n } = s.arbitrated (State.afterFailure { s with rActive := false } e) := by
  obtain ⟨-, hretry, -⟩ := hwrap hr
  have hpasses := refusal_of_cleared_wrapper (s := s.quiet) hwrap hr s.rLeft
  rw [← fail_eq_afterFailure e (s := { s with rActive := false }) rfl n,
    fail_transparent (s := { State.quiet { s with rActive := false } with timer := n }) rfl, fail_eq]
  exact deliver_err_eq_arbitrated (s := { s.quiet with state := s.state.enteredFrom, active := false, timer := 0 })
    hretry hr rfl hpasses

include hc hwrap hr

theorem rxStep_eq_arbitrated (f : Frame) : rxStep f s = s.arbitrated (rxStep f { s with rActive := false }) := by
  obtain ⟨ha, hretry, -⟩ := hwrap hr
  rcases rxStep_cases f hc with ⟨e, he, -, heq⟩ | ⟨e, -, hna, -⟩ | ⟨hpass, hs, -⟩ | ⟨hpass, hs, -⟩
  · rw [heq, rxStep_rejects (s := { s with rActive := false }) hc rfl he, if_pos ha]
    exact fail_eq_arbitrated hwrap hr e s.timer
  · exact nomatch ha.symm.trans hna
  · rw [rxStep_acknowledges hc hpass hs, rxStep_acknowledges (s := { s with rActive := false }) hc hpass hs]
    exact afterAck_eq_arbitrated hretry [] s.upBuf
  · rw [rxStep_extendsUpload hc hpass hs rfl,
      rxStep_extendsUpload (s := { s with rActive := false }) hc hpass hs rfl]
    split
    · exact afterAck_eq_arbitrated hretry _ _
    · rw [arbitrated_noResult rfl, ← hr]

theorem tickStep_eq_arbitrated : tickStep s = s.arbitrated (tickStep { s with rActive := false }) := by
  obtain ⟨ha, -⟩ := hwrap hr
  by_cases hlast : s.timer ≤ 1
  · rw [tickStep_expires hc ha hlast, tickStep_expires (s := { s with rActive := false }) hc ha hlast,
      fail_eq_afterFailure (s := { s with rActive := false }) .requestTimeout rfl]
    exact fail_eq_arbitrated hwrap hr .requestTimeout _
  · rw [tickStep_countsDown hc ha (Nat.lt_of_not_le hlast),
      tickStep_countsDown (s := { s with rActive := false }) hc ha (Nat.lt_of_not_le hlast),
      arbitrated_noResult rfl, ← hr]
    rfl

end Outstanding

/-- Without a controller nothing is outstanding (R1, R16). -/
theorem State.Inv.hasController_of_active {s : State} (h : s.Inv) (ha : s.active = true) :
    s.cfg.hasController = true := by
  obtain ⟨-, hactive, -, -, -, -, habsent⟩ := h
  rw [← Bool.not_eq_false]
  intro hc
  rw [hactive, habsent hc] at ha
  cases ha

/-- With a wrapper in progress the step of an inbound frame or a tick is what the arbiter makes of the step without. -/
theorem step_eq_arbitrated {s t : State} {e : Event} {rest : List Event} (h : s.Inv) (hr : s.rActive = true)
    (hevents : s.events = e :: rest) (he : e = .tick ∨ ∃ f, e = .rx f)
    (hstep : step { s with rActive := false } = .next t) : step s = .next (s.arbitrated t) := by
  obtain ⟨-, -, -, -, -, hwrap, -⟩ := id h
  obtain ⟨ha, -⟩ := hwrap hr
  have hc := h.hasController_of_active ha
  rcases he with rfl | ⟨f, rfl⟩
  · cases hstep.symm.trans (step_tick (s := { s with rActive := false }) hevents)
    exact (step_tick hevents).trans
      (congrArg Host.Outcome.next (tickStep_eq_arbitrated (s := { s with events := rest }) hc hwrap hr))
  · cases hstep.symm.trans (step_rx (s := { s with rActive := false }) hevents)
    exact (step_rx hevents).trans
      (congrArg Host.Outcome.next (rxStep_eq_arbitrated (s := { s with events := rest }) hc hwrap hr f))

/-- Where the step without the wrapper resolves an error, the wrapped operation can be issued anew: the transaction is
cleared, back in the state the operation was entered from (R14, R176, R193). -/
theorem wrapped_op_passes_after_error {s t : State} {e : Err} (h : s.Inv) (hr : s.rActive = true)
    (hreset : s.NotReset) (hstep : step { s with rActive := false } = .next t)
    (hresolve : t.out.resolve = some (.err e)) : t.admits s.rOp = true ∧ refusal s.rOp t = none := by
  obtain ⟨-, -, -, -, -, hwrap, -⟩ := id h
  obtain ⟨ha, -, hstate, hcontract, hwf⟩ := hwrap hr
  obtain ⟨hcfg, -⟩ := stepTakesOneEventAndKeepsConfiguration _ _ hstep
  constructor
  · simp [State.admits, hcfg, h.hasController_of_active ha, hwf]
  · have heffect := step_effect (s := { s with rActive := false }) nofun hreset hstep
    cases heffect with
    | stays _ _ hnone => exact nomatch hresolve.symm.trans hnone
    | issued _ _ _ _ hnone => exact nomatch hresolve.symm.trans hnone
    | reissued _ _ hnone => exact nomatch hresolve.symm.trans hnone
    | acknowledged _ _ _ _ _ hok => exact nomatch hresolve.symm.trans hok
    | failed _ _ hended hentered =>
      refine (refusal_eq_none_iff s.rOp t).2 ⟨hended, ?_, hcontract⟩
      rw [hentered, hstate, enteredFrom_waitingState]

/-- Settles O47: the step is what the arbiter makes of the step without a wrapper; after an error that it takes, the
bare operation would be accepted, and the arbiter issues the same command. -/
theorem arbiterTakesEveryResult : Obligations.ArbiterTakesEveryResult := by
  unfold Obligations.ArbiterTakesEveryResult
  intro s t e rest hinv hr hevents he hstep
  have hreset : s.NotReset := by
    rw [State.NotReset, hevents]
    rintro ⟨⟩
    obtain hevent | ⟨f, hevent⟩ := he <;> cases hevent
  rw [step_eq_arbitrated hinv hr hevents he hstep]
  refine ⟨fun hnone => ?_, fun v hok => ?_, fun err herr hfinal => ?_, fun err herr hkind hleft => ?_⟩
  · rw [arbitrated_noResult hnone]
  · rw [arbitrated_ok hok]
  · rw [arbitrated_finalErr herr hfinal]
  · obtain ⟨hadmits, hpasses⟩ := wrapped_op_passes_after_error hinv hr hreset hstep herr
    refine ⟨_, (exec_toInstr s.rOp t).trans (congrArg _ (present_accepted hadmits hpasses)), rfl, ?_⟩
    rw [arbitrated_retriedErr herr hkind hleft]
    simp

end Sys2Proof.Machine

/-!
## Errors and categories (R226 to R228)

No error stops the block. The category and the fault signal of a status byte are read off its lookup. A violation leaves
the block by one way only, a frame at the RX port with nothing outstanding; everything else keeps that port silent.
-/

namespace Sys2Proof.Machine

/-- Settles O7: whatever its kind, an instruction answers a state, and so does the step that takes the first event. -/
theorem noInstructionStopsTheBlock : Obligations.NoInstructionStopsTheBlock := by
  unfold Obligations.NoInstructionStopsTheBlock
  refine ⟨fun i s => ?_, fun s => ?_⟩
  · obtain ⟨t, hexec, -⟩ := exec_sameInput s i
    exact ⟨t, hexec⟩
  · obtain ⟨t, hstep, -⟩ := step_takes_first_event s
    exact ⟨t, hstep⟩

/-! ### Categories and fault signals (R227, R228) -/

/-- Settles O43: each row of the table by its three columns. -/
theorem categoryTableIsR227 : Obligations.CategoryTableIsR227 :=
  ⟨⟨rfl, rfl, rfl⟩, ⟨rfl, rfl, rfl⟩, ⟨rfl, rfl, rfl⟩, ⟨rfl, rfl, rfl⟩, ⟨rfl, rfl, rfl⟩⟩

theorem lookupStatus_eq_none {c : Config} {b : Byte} (h : ∀ m, c.status.get m ≠ b) : lookupStatus c b = none :=
  Option.eq_none_iff_forall_ne_some.2 fun m hm => h m (lookupStatus_some hm)

theorem categoryOf_member {c : Config} (h : c.statuses.Nodup) (m : CommandStatus) :
    categoryOf c (c.status.get m) = .known (c.category.get m) := by
  simp only [categoryOf, (lookupStatus_iff h _ m).2 rfl]

theorem categoryOf_notMember {c : Config} {b : Byte} (h : ∀ m, c.status.get m ≠ b) : categoryOf c b = .unknown := by
  simp only [categoryOf, lookupStatus_eq_none h]

theorem faultOf_known {c : Config} {b : Byte} {k : StatusClass} (h : categoryOf c b = .known k) :
    faultOf c b = true ↔ k = .c1 ∨ k = .c2 ∨ k = .c3 := by
  unfold faultOf
  rw [h]
  cases k <;> decide

theorem faultOf_unknown {c : Config} {b : Byte} (h : categoryOf c b = .unknown) : faultOf c b = true := by
  unfold faultOf
  rw [h]

/-- Settles O42: by the byte's lookup, which R3 makes exact, and the fault signal by the category it gives. -/
theorem statusBytesHaveCategories : Obligations.StatusBytesHaveCategories := by
  unfold Obligations.StatusBytesHaveCategories
  intro c b hvalid
  obtain ⟨-, -, hstatuses, -⟩ := hvalid
  refine ⟨?_, categoryOf_notMember, ?_⟩
  · rintro m rfl
    exact categoryOf_member hstatuses m
  · cases hcat : categoryOf c b with
    | known k => simp [faultOf_known hcat]
    | unknown => simp [faultOf_unknown hcat]

/-! ### The violation port (R175, R242) -/

theorem report_violation (sync : Bool) (e : Err) (s : State) :
    (s.report sync e).out.violation = s.out.violation := by
  cases sync <;> rfl

theorem attempt_violation (sync : Bool) (left : Nat) (s : State) :
    (attempt sync left s).out.violation = s.out.violation := by
  rcases attempt_cases sync left s with ⟨-, he⟩ | ⟨e, n, -, he⟩
  · rw [he]
    cases sync <;> simp
  · rw [he]
    exact report_violation sync e _

theorem deliver_violation (r : Result) (s : State) : (deliver r s).out.violation = s.out.violation := by
  rcases deliver_cases r s with ⟨b, he, -⟩ | ⟨e, -, -, -, -, -, he⟩
  · rw [he]
    rfl
  · rw [he]
    exact attempt_violation _ _ _

theorem fail_violation (e : Err) (s : State) : (fail e s).out.violation = s.out.violation :=
  deliver_violation (.err e) _

theorem succeed_violation (bytes : List Byte) (s : State) : (succeed bytes s).out.violation = s.out.violation :=
  deliver_violation (.ok bytes) _

theorem uploadReply_violation (f : Frame) (s : State) : (uploadReply f s).out.violation = s.out.violation := by
  obtain ⟨buf, -, ⟨-, he⟩ | ⟨-, he⟩⟩ := uploadReply_cases f s
  · rw [he]
    exact succeed_violation buf _
  · rw [he]

theorem present_violation (op : CtrlOp) (s : State) : (present op s).out.violation = none := by
  rcases present_cases op s with ⟨-, he⟩ | ⟨-, e, -, he⟩ | ⟨-, -, he⟩ <;> simp [he]

theorem tickStep_violation (s : State) : (tickStep s).out.violation = none := by
  rcases tickStep_cases s with ⟨-, -, -, he⟩ | ⟨-, -, -, he⟩ | ⟨-, he⟩
  · rw [he]
    exact fail_violation .requestTimeout _
  · rw [he]
    rfl
  · rw [he]
    rfl

/-- A violation is output with nothing outstanding, and is all that happens (R175). -/
abbrev State.ViolatesOnlyInactive (s t : State) : Prop :=
  t.out.violation = none ∨ s.active = false ∧ ∃ e, t = s.afterViolation e

theorem rxStep_violatesOnlyInactive (f : Frame) (s : State) : s.ViolatesOnlyInactive (rxStep f s) := by
  cases hc : s.cfg.hasController with
  | false => exact .inl (by rw [rxStep_absent hc]; rfl)
  | true =>
    rcases rxStep_cases f hc with ⟨e, -, -, he⟩ | ⟨e, -, hfree, he⟩ | ⟨-, -, he⟩ | ⟨-, -, he⟩
    · exact .inl (by rw [he]; exact fail_violation e s.quiet)
    · exact .inr ⟨hfree, e, he⟩
    · exact .inl (by rw [he]; exact succeed_violation [] s.quiet)
    · exact .inl (by rw [he]; exact uploadReply_violation f s.quiet)

theorem otherEvent_violatesOnlyInactive (e : Event) (s : State) : s.ViolatesOnlyInactive (otherEvent e s) := by
  cases e with
  | op sel args => exact .inl rfl
  | rx f => exact rxStep_violatesOnlyInactive f s
  | tick => exact .inl (tickStep_violation s)
  | reset => exact .inl rfl

theorem exec_cancel_violation (s : State) : ∃ t, exec .cancel s = .next t ∧ t.out.violation = none := by
  rcases exec_cancel_cases s with ⟨-, he⟩ | ⟨-, -, he⟩ | ⟨-, -, he⟩
  · exact ⟨_, he, rfl⟩
  · exact ⟨_, he, by simp [fail_violation]⟩
  · exact ⟨_, he, by simp⟩

theorem exec_retry_violation (op : CtrlOp) (times : Byte) (acc : KindSet) (s : State) :
    ∃ t, exec (.retry op times acc) s = .next t ∧ t.out.violation = none := by
  rcases exec_retry_cases op times acc s with ⟨-, he⟩ | ⟨-, -, he⟩ | ⟨-, -, he⟩
  · exact ⟨_, he, rfl⟩
  · exact ⟨_, he, rfl⟩
  · exact ⟨_, he, attempt_violation _ _ _⟩

theorem exec_crcOperation_violation {i : Instr} (hcrc : isCrcOperation i = true) (s : State) :
    ∃ t, exec i s = .next t ∧ t.out.violation = none := by
  cases i with
  | crcSeed mask => exact ⟨_, exec_crcSeed mask s, rfl⟩
  | crcLoad lane v => exact ⟨_, exec_crcLoad lane v s, by simp⟩
  | crcUpdate mask b => exact ⟨_, exec_crcUpdate mask b s, rfl⟩
  | crcRead lane => exact ⟨_, exec_crcRead lane s, rfl⟩
  | _ => cases hcrc

/-- Of the six kinds of instruction only an inbound frame can be a violation. -/
theorem exec_violatesOnlyInactive (i : Instr) (s : State) : ∃ t, exec i s = .next t ∧ s.ViolatesOnlyInactive t := by
  cases instrKind s.cfg i with
  | wire f hwf hexec => exact ⟨_, hexec s rfl, rxStep_violatesOnlyInactive f s⟩
  | operation op => exact ⟨_, exec_toInstr op s, .inl (present_violation op s)⟩
  | cancel =>
    obtain ⟨t, he, hnone⟩ := exec_cancel_violation s
    exact ⟨t, he, .inl hnone⟩
  | retry op times acc =>
    obtain ⟨t, he, hnone⟩ := exec_retry_violation op times acc s
    exact ⟨t, he, .inl hnone⟩
  | codec v hwf hexec => exact ⟨_, hexec s rfl, .inl rfl⟩
  | crc hwf hcrc =>
    obtain ⟨t, he, hnone⟩ := exec_crcOperation_violation hcrc s
    exact ⟨t, he, .inl hnone⟩

/-- The same of a step, RESET included, but for the event that it takes. -/
theorem step_violatesOnlyInactive {s t : State} (hstep : step s = .next t) :
    ∃ rest, State.ViolatesOnlyInactive { s with events := rest } t := by
  cases hev : s.events with
  | nil =>
    cases hstep.symm.trans (step_no_event hev)
    exact ⟨[], .inl rfl⟩
  | cons e rest =>
    cases hd : decode s.cfg e with
    | ok i =>
      obtain ⟨t', he, hviolates⟩ := exec_violatesOnlyInactive i { s with events := rest }
      cases hstep.symm.trans ((step_instruction hev hd).trans he)
      exact ⟨rest, hviolates⟩
    | error r =>
      cases hstep.symm.trans (step_other hev hd)
      exact ⟨rest, otherEvent_violatesOnlyInactive e { s with events := rest }⟩

/-! ### Results (R226, R242) -/

/-- A failure and an acknowledgement are the effects that end a transaction, and the two that have a result. -/
theorem StepEffect.resolve_isSome_iff {s t : State} (h : StepEffect s t) :
    t.out.resolve.isSome = true ↔ s.active = true ∧ t.active = false := by
  cases h with
  | stays _ hactive hresolve => simp [hresolve, hactive]
  | issued op _ _ _ hresolve hsends =>
    obtain ⟨-, -, -, -, hactive, -⟩ := hsends
    simp [hresolve, hactive]
  | reissued _ _ hresolve hsends =>
    obtain ⟨-, -, -, -, hactive, -⟩ := hsends
    simp [hresolve, hactive]
  | failed e hactive hended _ hresolve => simp [hresolve, hactive, hended]
  | acknowledged bytes _ hactive hended _ hresolve => simp [hresolve, hactive, hended]

/-- Settles O54: the results by the effect of the step, the violations by the one way they leave. -/
theorem resultsAppearWhenTransactionsEnd : Obligations.ResultsAppearWhenTransactionsEnd := by
  unfold Obligations.ResultsAppearWhenTransactionsEnd
  intro s t hinv hreset hstep
  obtain ⟨heffect, -⟩ := hinv.step_effect hreset hstep
  refine ⟨heffect.resolve_isSome_iff, fun hviolation => ?_⟩
  obtain ⟨rest, hnone | ⟨hfree, e, rfl⟩⟩ := step_violatesOnlyInactive hstep
  · rw [hnone] at hviolation
    cases hviolation
  · exact ⟨hfree, ⟨rfl, rfl⟩, ⟨rfl, rfl, rfl, rfl, rfl, rfl, rfl⟩, ⟨rfl, rfl, rfl, rfl⟩, rfl⟩

end Sys2Proof.Machine

/-!
## A RESET event (R260)
-/

namespace Sys2Proof.Machine

/-- A RESET carries no instruction, so its step is `resetStep` after the event (R230, R260). -/
theorem step_reset {s : State} {rest : List Event} (hevents : s.events = .reset :: rest) :
    step s = .next (resetStep { s with events := rest }) :=
  step_other hevents rfl

/-- Settles O45: the three registers the spec leaves unspecified after a RESET hold the model's free values for the
count of RESETs so far (R26, U9). -/
theorem resetEventWritesEveryRegister : Obligations.ResetEventWritesEveryRegister := by
  unfold Obligations.ResetEventWritesEveryRegister
  intro s rest hevents
  exact ⟨Config.freeRetryOp s.freeIdx, Config.freeRetryLeft s.freeIdx, Config.freeRetryAccept s.freeIdx,
    step_reset hevents⟩

end Sys2Proof.Machine

/-!
## Decode and encode undo each other (R62, R63, R69 to R78, R90)

An instruction is presented at one of two ports, so each direction is proved once for the operation port (R90) and once
for the RX port (R62, R63), where a command row is the code, the counter and a window of six bytes.
-/

namespace Sys2Proof

/-! ### The operation port (R90) -/

theorem laneOf_laneNumber (lane : Lane) : laneOf (laneNumber lane) = some lane := by
  cases lane <;> rfl

/-- A lane whose number decodes is presented by that number (R110). -/
theorem encode_of_laneOf {c : Config} {n : Nat} {lane : Lane} (h : laneOf n = some lane) :
    (∀ v, encode c (.crcLoad lane v) = .op 0x01 [.lane n, .half v]) ∧ encode c (.crcRead lane) = .op 0x03 [.lane n] := by
  obtain rfl := laneNumber_of_laneOf h
  exact ⟨fun _ => rfl, rfl⟩

theorem decodeOp_of_encode {c : Config} {i : Instr} {sel : Byte} {args : List Operand}
    (h : encode c i = .op sel args) : decodeOp sel args = .ok i := by
  cases i <;> cases h
  case crcLoad lane v => simp [decodeOp, laneOf_laneNumber]
  case crcRead lane => simp [decodeOp, laneOf_laneNumber]
  all_goals rfl

theorem selector_eq_ofNat {sel : Byte} {n : Nat} (h : sel.toNat = n) : sel = BitVec.ofNat 8 n := by
  rw [← h, BitVec.ofNat_toNat, BitVec.setWidth_eq]

/-- By the selector; only an operation with a lane reads an operand otherwise than as it stands. -/
theorem encode_of_decodeOp {c : Config} {sel : Byte} {args : List Operand} {i : Instr}
    (h : decodeOp sel args = .ok i) : encode c i = .op sel args := by
  unfold decodeOp at h
  split at h
  case h_19 => cases h
  case h_2 hsel =>
    obtain rfl := selector_eq_ofNat hsel
    split at h
    next n v =>
      split at h <;> cases h
      next hlane => exact (encode_of_laneOf hlane).1 v
    next => cases h
  case h_4 hsel =>
    obtain rfl := selector_eq_ofNat hsel
    split at h
    next n =>
      split at h <;> cases h
      next hlane => exact (encode_of_laneOf hlane).2
    next => cases h
  all_goals
    next hsel =>
      obtain rfl := selector_eq_ofNat hsel
      split at h <;> cases h
      rfl

end Sys2Proof

namespace Sys2Proof.Machine

/-! ### The RX port (R62, R63) -/

theorem decodeWire_wireReplyFrame (c : Config) (id : CanId) (ext : Bool) (status ctr : Byte) (payload : BitVec 40) :
    decodeWire c (wireReplyFrame id ext status ctr payload) = .ok (.wireReply id ext status ctr payload) :=
  congrArg (fun v => Except.ok (Instr.wireReply id ext status ctr v)) (ofBytes_be40 payload)

/-- An instruction that is the row of a member, read from a whole window, is read again from its own frame. -/
theorem decode_encode_of_commandRow {c : Config} (hv : c.Valid) {id : CanId} {ext : Bool} {ctr : Byte}
    {window : List Byte} {i : Instr} (m : CommandCode) (hlen : window.length = cmdWindow)
    (hrow : commandRow id ext ctr window m = i) : decode c (encode c i) = .ok i := by
  subst hrow
  rw [encode_commandRow c id ext ctr hlen m]
  exact decodeWire_hcFrame hv m id ext ctr hlen

/-- By R2 and R3 each command row is told by its code, and the bytes of its fields give the fields back (R43). -/
theorem decodeWire_of_encode {c : Config} (hv : c.Valid) {i : Instr} {f : Frame} (h : encode c i = .rx f) :
    decodeWire c f = .ok i := by
  show decode c (.rx f) = .ok i
  rw [← h]
  cases i with
  | wireConnect id ext ctr station pad =>
    exact decode_encode_of_commandRow hv .connect (window := station :: be40 pad) rfl
      (congrArg (Instr.wireConnect id ext ctr station) (ofBytes_be40 pad))
  | wireSetMta id ext ctr reserved extension address =>
    exact decode_encode_of_commandRow hv .setMta (window := reserved :: extension :: be32 address) rfl
      (congrArg (Instr.wireSetMta id ext ctr reserved extension) (ofBytes_be32 address))
  | wireDownload id ext ctr length data =>
    exact decode_encode_of_commandRow hv .download (window := length :: be40 data) rfl
      (congrArg (Instr.wireDownload id ext ctr length) (ofBytes_be40 data))
  | wireUpload id ext ctr count pad =>
    exact decode_encode_of_commandRow hv .upload (window := count :: be40 pad) rfl
      (congrArg (Instr.wireUpload id ext ctr count) (ofBytes_be40 pad))
  | wireDisconnect id ext ctr pad =>
    exact decode_encode_of_commandRow hv .disconnect (window := be48 pad) rfl
      (congrArg (Instr.wireDisconnect id ext ctr) (ofBytes_be48 pad))
  | wireBuildChecksum id ext ctr length checksum =>
    exact decode_encode_of_commandRow hv .buildChecksum (window := be32 length ++ be16 checksum) rfl
      (congrArg₂ (Instr.wireBuildChecksum id ext ctr) (ofBytes_be32 length) (ofBytes_be16 checksum))
  | wireClearMemory id ext ctr length pad =>
    exact decode_encode_of_commandRow hv .clearMemory (window := be32 length ++ be16 pad) rfl
      (congrArg₂ (Instr.wireClearMemory id ext ctr) (ofBytes_be32 length) (ofBytes_be16 pad))
  | wireUnlock id ext ctr lead password pad =>
    exact decode_encode_of_commandRow hv .unlock (window := lead :: (be16 password ++ be24 pad)) rfl
      (congrArg₂ (Instr.wireUnlock id ext ctr lead) (ofBytes_be16 password) (ofBytes_be24 pad))
  | wireActionService id ext ctr payload =>
    exact decode_encode_of_commandRow hv .actionService (window := be48 payload) rfl
      (congrArg (Instr.wireActionService id ext ctr) (ofBytes_be48 payload))
  | wireDownload6 id ext ctr data =>
    exact decode_encode_of_commandRow hv .download6 (window := be48 data) rfl
      (congrArg (Instr.wireDownload6 id ext ctr) (ofBytes_be48 data))
  | wireReply id ext status ctr payload => exact decodeWire_wireReplyFrame c id ext status ctr payload
  | _ => cases h

/-! ### The statements -/

theorem encode_ne_tick (c : Config) (i : Instr) : encode c i ≠ .tick := by
  cases i <;> nofun

theorem encode_ne_reset (c : Config) (i : Instr) : encode c i ≠ .reset := by
  cases i <;> nofun

/-- Settles O1: by the port at which the instruction is presented; a tick and a reset present none (R230). -/
theorem encodedInstructionDecodesToItself : Obligations.EncodedInstructionDecodesToItself := by
  unfold Obligations.EncodedInstructionDecodesToItself
  intro c i hv
  cases h : encode c i with
  | op sel args => exact decodeOp_of_encode h
  | rx f => exact decodeWire_of_encode hv h
  | tick => exact absurd h (encode_ne_tick c i)
  | reset => exact absurd h (encode_ne_reset c i)

/-- Settles O2: by the port of the event; a tick and a reset decode to no instruction. -/
theorem decodedEventIsItsEncoding : Obligations.DecodedEventIsItsEncoding := by
  unfold Obligations.DecodedEventIsItsEncoding
  intro c e i h
  cases e with
  | op sel args => exact encode_of_decodeOp h
  | rx f => exact encode_of_decodeWire h
  | tick => cases h
  | reset => cases h

end Sys2Proof.Machine

/-!
## The operations that write a lane (R104 to R106)
-/

namespace Sys2Proof.Machine

/-- Settles O12: a lane is written in the quiet state, and writing it leaves the ports as they are. -/
theorem laneWritesOutputNothing : Obligations.LaneWritesOutputNothing := by
  unfold Obligations.LaneWritesOutputNothing
  intro i s t hcrc hread hexec
  cases i with
  | crcSeed mask =>
    cases (exec_crcSeed mask s).symm.trans hexec
    exact mapLanes_out s.quiet mask _
  | crcLoad lane v =>
    cases (exec_crcLoad lane v s).symm.trans hexec
    exact setLane_out s.quiet lane v
  | crcUpdate mask b =>
    cases (exec_crcUpdate mask b s).symm.trans hexec
    exact mapLanes_out s.quiet mask _
  | crcRead lane => exact absurd rfl (hread lane)
  | _ => cases hcrc

end Sys2Proof.Machine
